-- ==== Sys2Proof/Word.lean ====
section
/-! DEFINITION. The word types of the SC-40 and the plain tables (vectors) its per-instance state stands in. -/
namespace Sys2Proof

/-- A byte of a telegram or of the configuration image (chapter 13). -/
abbrev Byte := BitVec 8

/-- The station clock: milliseconds since the last reset, 32 bits, wrapping (00 Table 2). -/
abbrev Clock := BitVec 32

/-- A timer: stopped, or running with the milliseconds it has left. -/
abbrev Timer := Option Nat

/-- The table whose entry `i` is `f i`. -/
def tabulate {α : Type} {n : Nat} (f : Fin n → α) : Vector α n :=
  ⟨(List.ofFn f).toArray, by simp⟩

@[simp] theorem tabulate_getElem {α : Type} {n : Nat} (f : Fin n → α) (i : Nat) (h : i < n) :
    (tabulate f)[i] = f ⟨i, h⟩ := by simp [tabulate]

@[simp] theorem tabulate_getElem_fin {α : Type} {n : Nat} (f : Fin n → α) (i : Fin n) :
    (tabulate f)[i] = f i := by simp [tabulate]

end Sys2Proof
end

