-- ==== Sys2Proof/Syntax.lean ====
section
/-! DEFINITION. The names the manual uses (roles, phases, hazards, causes, verdicts, reasons ...) and the commands:
one constructor of `Instr` per row of spec/opcode_table.json. -/
namespace Sys2Proof

/-- Table 1. `unset` is the code "none 0" of Table 37: a peer never heard, or a FAULTED station without a valid role. -/
inductive Role where
  | unset | intake | discharge | transfer | shredder | quarantine
  deriving DecidableEq, Repr

/-- Table 34, the start phases. -/
inductive Phase where
  | load | check | join | test | baseline | run | faulted
  deriving DecidableEq, Repr

/-- Hazards, CLEAR < CAUTION < HOLD < STOP (00 Conventions). -/
inductive Hazard where
  | clear | caution | hold | stop
  deriving DecidableEq, Repr

/-- Cause levels, OFF < LOW < NOMINAL < HIGH (00 Conventions). -/
inductive Level where
  | off | low | nominal | high
  deriving DecidableEq, Repr

/-- Table 24, the fourteen causes in code order. -/
inductive Cause where
  | pointWarn | pointAlarm | zoneConfirmed | pointFault | o2High | thermal | channelFault | rotorStall
  | rotorLabour | peerHazard | peerSilent | lineStop | custodyDiscrepancy | linkFault
  deriving DecidableEq, Repr

/-- Table 8, the pack classes in code order. -/
inductive PackClass where
  | unknown | nmc | nca | lfp | lmo | other
  deriving DecidableEq, Repr

/-- Table 19, the verdicts of a discharge. -/
inductive Verdict where
  | discharged | openCircuit | thermal | expired | stubborn | aborted | fire
  deriving DecidableEq, Repr

/-- Table 14, the refusal reasons in order of test. -/
inductive Reason where
  | busy | full | hazard | duplicate | hops | notDischarged | overVoltage | packClass | notInert
  deriving DecidableEq, Repr

/-- Table 9, the states of a pack entry. -/
inductive EntryState where
  | waiting | inChannel | ready | offered | inTransit | adrift | feeding
  deriving DecidableEq, Repr

/-- Table 17, the states of a discharge channel. -/
inductive ChannelState where
  | empty | connecting | discharge | held | rest | done
  deriving DecidableEq, Repr

/-- Table 26, the atmosphere states. `inactive` is the manual's NONE. -/
inductive Atmos where
  | inactive | purge | inert | degraded | flood
  deriving DecidableEq, Repr

/-- Table 20, the kinds of a detector point. -/
inductive PointKind where
  | disabled | heat | oxygen | vapour | flame | spark
  deriving DecidableEq, Repr

/-- R84, the compare modes of an analogue point. -/
inductive CompareMode where
  | absolute | baseline | rate
  deriving DecidableEq, Repr

/-- R88, the edge a pulse point counts. -/
inductive EdgeSelect where
  | rising | falling
  deriving DecidableEq, Repr

/-- R82, the evaluated level of a point. -/
inductive PointLevel where
  | normal | warn | alarm
  deriving DecidableEq, Repr

/-- Table 21, the reported state of a point. -/
inductive PointReport where
  | disabled | testing | fault | alarm | warn | normal
  deriving DecidableEq, Repr

/-- R92, the result of a point's last test. -/
inductive TestResult where
  | pass | fail | skipped
  deriving DecidableEq, Repr

/-- R100, the configured mode of a zone. -/
inductive ZoneMode where
  | single | coincidence
  deriving DecidableEq, Repr

/-- Table 23, the states of a zone. -/
inductive ZoneStatus where
  | quiet | pending | confirmed | fault
  deriving DecidableEq, Repr

/-- Table 22, what confirmed a zone. -/
inductive Basis where
  | single | coincidence | persistence
  deriving DecidableEq, Repr

/-- Table 27, the freshness of a peer entry. -/
inductive Freshness where
  | fresh | stale | silent
  deriving DecidableEq, Repr

/-- Table 30, the link states. -/
inductive LinkState where
  | unjoined | settling | gap | idle | sending | receiving | emitting
  deriving DecidableEq, Repr

/-- R161, the bit rates. -/
inductive BitRate where
  | kbit62 | kbit125 | kbit250
  deriving DecidableEq, Repr

/-- Table 32, the outcomes of a terminal removal. -/
inductive Removal where
  | shredded | removed | lost | orphanShredded
  deriving DecidableEq, Repr

/-- R177, the two tally banks. -/
inductive BankName where
  | a | b
  deriving DecidableEq, Repr

/-- R188, the findings that lead to FAULTED. -/
inductive Finding where
  | noImage | stationMismatch | badRole
  deriving DecidableEq, Repr

/-- The four discharge channels A to D. -/
abbrev ChannelId := Fin 4

/-- The twelve detector points; point number 1 is 0. -/
abbrev PointId := Fin 12

/-- The analogue points 1 to 8; point number 1 is 0. -/
abbrev AnalogueId := Fin 8

/-- The pulse points 9 to 12; point number 9 is 0. -/
abbrev PulseId := Fin 4

/-- The four zones; zone number 1 is 0. -/
abbrev ZoneId := Fin 4

/-- The peer entries; station number 1 is 0. -/
abbrev PeerId := Fin 31

/-- A pack token *s/n*: origin station 1–31 and serial 1–16,777,215 (01 Table 6). -/
structure Token where
  origin : Nat
  serial : Nat
  deriving DecidableEq, Repr

/-- RESET_RELEASE: the samples of RSTn, and those of SA0 to SA4, pin 0 in bit 0 (R1, R186). -/
structure ReleaseSamples where
  rstn : List Bool
  straps : List (BitVec 5)
  deriving DecidableEq, Repr

/-- FRAME_ERROR: the 11-bit characters of a frame, first bit on the line in bit 10, and the bits read after the last of
them while the controller waits (R167), `true` being recessive. -/
structure FrameBits where
  chars : List (BitVec 11)
  waited : List Bool
  deriving DecidableEq, Repr

/-- The commands: one constructor per row of spec/opcode_table.json, each with what its event needs from outside.
`samples` are the raw samples an input took since the last command about it (R1), `true` being high; `cls`
and `dmg` are such samples of CLASS0 to CLASS2 and DMG, pin 0 in bit 0. PIN_RESET has none: it is the low level of RSTn, two
samples that agree.
`bits` are the bit times read on LRX since the last command about the line, `true` being recessive (10 R161).
`readBack` are the bits read back since the start bit of the attempt, `chars` the 11-bit characters of a frame,
first bit on the line in bit 10. A telegram command (OFFER_RECEIVED to REPORT_RECEIVED, the QUERY items) has no operand: its
owner takes the oldest telegram of the receive queue (R168). -/
inductive Instr where
  | powerOnReset
  | pinReset
  | resetRelease (samples : ReleaseSamples)
  | imageReadAttempt (bytes : List Byte)
  | joinCompletion (bits : List Bool) (readings : Vector Int 8)
  | baselineEnd (volts : Vector Nat 4)
  | entryRise (samples : List Bool) (cls : List (BitVec 3)) (dmg : List Bool)
  | removeRise (samples : List Bool)
  | throatPulse (samples : List Bool)
  | restoreRise (samples : List Bool)
  | connRise (ch : ChannelId) (samples : List Bool) (volts : Nat)
  | connFall (ch : ChannelId) (samples : List Bool)
  | measurementSample (ch : ChannelId) (volts : Nat) (current : Int) (temp : Int)
  | restTimerExpiry (ch : ChannelId)
  | dischargeTimeExpiry (ch : ChannelId)
  | pointScan (pt : AnalogueId) (reading : Int)
  | pulseEdge (pt : PulseId) (samples : List Bool)
  | pulseWindowEnd (pt : PulseId)
  | testTimerExpiry
  | releaseEnd
  | testIntervalExpiry
  | zoneWindowExpiry (z : ZoneId)
  | persistenceExpiry (pt : PointId)
  | stopBurstEnd (bitTimes : Nat)
  | stopBurstDetected (bits : List Bool)
  | stopHoldExpiry
  | replyTimerExpiry
  | retryTimerExpiry
  | exitGateExpiry
  | adriftExpiry (tok : Token)
  | transitTimerExpiry
  | offerReceived
  | acceptReceived
  | refuseReceived
  | withdrawReceived
  | arrivedReceived
  | missingReceived
  | statusReceived
  | alarmReceived
  | duplicateStation
  | reportReceived
  | staleTimerExpiry (p : PeerId)
  | silentTimerExpiry (p : PeerId)
  | graceTimerExpiry
  | stationStatusTimerExpiry
  | transmitAttempt
  | telegramSent (readBack : List Bool)
  | arbitrationLost (readBack : List Bool)
  | bitError (readBack : List Bool)
  | frameReceived (chars : List (BitVec 11))
  | frameError (frame : FrameBits)
  | linkIdle (bits : List Bool)
  | settleTimerExpiry
  | purgeTimerExpiry
  | rotorPulse (samples : List Bool)
  | stallTimerExpiry
  | feedTimerExpiry
  | identify
  | counters
  | custody
  | peer
  | point
  | zone
  | channel
  | cause
  | chamber
  | tally
  | turn
  | queryUndefinedItem
  deriving DecidableEq, Repr

end Sys2Proof
end

