-- ==== Sys2Proof/Decode.lean ====
section
/-! DEFINITION. The decoder of the opcode table. No row of spec/opcode_table.json gives bits (every row's "fields" is
empty and none has "fixed"), so no word spells a command. The telegram and image formats of chapter 13 are decoded in
Sys2Proof/Machine/Format.lean and Sys2Proof/Machine/Image.lean. -/
namespace Sys2Proof

/-- The command that a word spells by the table's bits: none, because the table gives no row any bits. -/
def decodeTableWord (_nbits _w : Nat) : Option Instr := none

end Sys2Proof
end

