-- ==== Sys2Proof/Config.lean ====
section
/-! DEFINITION. The configuration in force: every field of the image (Table 42) as CHECK leaves it (R189), times in
milliseconds where a block counts in milliseconds; and the free value of the model. -/
namespace Sys2Proof

/-- Table 20, the parameters of one point. `low`, `high` are the fault band; `warn`, `alarm` the thresholds or counts;
`span` the rate interval or the window, in seconds. -/
structure PointCfg where
  kind : PointKind
  zone : Nat
  mode : CompareMode
  edge : EdgeSelect
  low : Int
  high : Int
  warn : Nat
  alarm : Nat
  hyst : Nat
  span : Nat
  deriving DecidableEq, Repr

/-- R100, the parameters of one zone; window and persistence in ms, persistence 0 being off. -/
structure ZoneCfg where
  mode : ZoneMode
  windowMs : Nat
  persistMs : Nat
  deriving DecidableEq, Repr

/-- R50, the parameters of one channel: its zone (0 for none) and its load resistance in mΩ. -/
structure ChannelCfg where
  zone : Nat
  rLoad : Nat
  deriving DecidableEq, Repr

/-- R155, one entry of the listen table; (0, 0) is unused. -/
structure ListenEntry where
  station : Nat
  zone : Nat
  deriving DecidableEq, Repr

/-- Table 42, the configuration in force. -/
structure Config where
  role : Role
  bitRate : BitRate
  statusMs : Nat
  primary : Nat
  quarantine : Nat
  configId : Nat
  replyMs : Nat
  retryMs : Nat
  gateMs : Nat
  transitMs : Nat
  acceptVolts : Nat
  tm : Nat
  vPresent : Nat
  vEnd : Nat
  nEnd : Nat
  iMin : Nat
  noRespMs : Nat
  maxMs : Nat
  restMs : Nat
  vSafe : Nat
  rMax : Nat
  tKnee : Int
  tCut : Int
  pMax : Nat
  dMin : Nat
  channels : Vector ChannelCfg 4
  points : Vector PointCfg 12
  zones : Vector ZoneCfg 4
  testLines : Vector Nat 4
  testMs : Nat
  releaseMs : Nat
  intervalMs : Nat
  levels : Vector Level 14
  peerMap : Vector Level 4
  listen : List ListenEntry
  stopHoldMs : Nat
  chamberZone : Nat
  o2Run : Nat
  o2Warn : Nat
  o2Alarm : Nat
  settleMs : Nat
  purgeMs : Nat
  stallMs : Nat
  labourMs : Nat
  feedMs : Nat
  watermark : Nat
  deriving DecidableEq, Repr

/-- A point that takes no part in anything (R81). -/
def PointCfg.unused : PointCfg :=
  { kind := .disabled, zone := 0, mode := .absolute, edge := .rising, low := 0, high := 0,
    warn := 0, alarm := 0, hyst := 0, span := 0 }

/-- DESIGN CHOICE (log 5), unsafe: what the configuration fields read as before CHECK has accepted an image. No block
reads one of them before CHECK; a FAULTED station replaces the fields R193 names. -/
def Config.blank : Config :=
  { role := .unset, bitRate := .kbit125, statusMs := 500, primary := 0, quarantine := 0, configId := 0,
    replyMs := 0, retryMs := 0, gateMs := 0, transitMs := 0, acceptVolts := 0,
    tm := 0, vPresent := 0, vEnd := 0, nEnd := 0, iMin := 0, noRespMs := 0, maxMs := 0, restMs := 0, vSafe := 0,
    rMax := 0, tKnee := 0, tCut := 0, pMax := 0, dMin := 0,
    channels := Vector.replicate 4 ⟨0, 0⟩,
    points := Vector.replicate 12 PointCfg.unused,
    zones := Vector.replicate 4 ⟨.coincidence, 0, 0⟩,
    testLines := Vector.replicate 4 0, testMs := 0, releaseMs := 0, intervalMs := 0,
    levels := Vector.replicate 14 .off, peerMap := Vector.replicate 4 .off,
    listen := List.replicate 6 ⟨0, 0⟩, stopHoldMs := 0,
    chamberZone := 0, o2Run := 0, o2Warn := 0, o2Alarm := 0, settleMs := 0, purgeMs := 0, stallMs := 0,
    labourMs := 0, feedMs := 0, watermark := 0 }

/-- FREE VALUE (log 10): the rest voltage taken when a rest expires with no sample in the rest window. R77 divides by
the number of codes held and says that the window always holds 8 codes, so it states no result for none. The argument
is the station clock at the expiry. -/
opaque Config.restVoltageOfNoSample : Nat → Nat

end Sys2Proof
end

