-- ==== Sys2Proof/Machine/State.lean ====
section
/-! DEFINITION. The state of the SC-40 as plain data, block by block (Table 2), and the state after power-on reset. -/
namespace Sys2Proof.Machine

/-- No command stops the SC-40: the spec gives it no fault that does (FAULTED is a start phase, R193), so this type
has no constructor and nothing raises it. Safe. -/
inductive Fault where
  deriving DecidableEq, Repr

/-- Why a command has no meaning. -/
inductive Refusal where
  /-- Raised by an arm of `exec` for a command of the table that has no meaning yet; no arm raises it. Safe. -/
  | notModelled (mnemonic : String)
  deriving DecidableEq, Repr

/-- A count held twice: cleared by both resets, and by POR alone (R23). 32 bits, wrapping. -/
structure Count where
  session : BitVec 32
  lifetime : BitVec 32
  deriving DecidableEq, Repr

/-- A time total of R137: session 32 bits, lifetime 48 bits, both wrapping. -/
structure TimeTotal where
  session : BitVec 32
  lifetime : BitVec 48
  deriving DecidableEq, Repr

/-- R1: a digital input's filtered level and its last raw sample. -/
structure Filter where
  level : Bool
  last : Bool
  deriving DecidableEq, Repr

/-- The digital inputs of Table 3 with their filters (R1), pin 0 of a group first, and the converter's present voltage
reading per channel (R53). -/
structure Pins where
  rstn : Filter
  straps : Vector Filter 5
  cls : Vector Filter 3
  dmg : Filter
  entry : Filter
  remove : Filter
  throat : Filter
  restore : Filter
  rotor : Filter
  conn : Vector Filter 4
  pulse : Vector Filter 4
  vsns : Vector Nat 4
  deriving DecidableEq, Repr

/-- R187: what the SPI outputs do: CSn driven to a level, a byte sent on MOSI, bytes clocked in from MISO. -/
inductive SpiSignal where
  | csn (level : Bool)
  | sent (byte : Byte)
  | clockedIn (count : Nat)
  deriving DecidableEq, Repr

/-- The configuration loader (R186–R188); `spi` holds what its latest read attempt did on the SPI pins. -/
structure Loader where
  held : Bool
  phase : Phase
  own : Nat
  attempts : Nat
  spi : List SpiSignal
  image : Option (List Byte)
  finding : Option Finding
  clamped : Bool
  baselineTimer : Timer
  deriving DecidableEq, Repr

/-- Table 7, a discharge summary. -/
structure Summary where
  verdict : Verdict
  energy : Nat
  charge : Nat
  restVolts : Nat
  rebounds : Nat
  peak : Int
  station : Nat
  clipped : Bool
  netIn : Bool
  deriving DecidableEq, Repr

/-- R17, a hazard mark. -/
structure Mark where
  cause : Cause
  station : Nat
  deriving DecidableEq, Repr

/-- R30, the pack record an OFFER carries: the fields of Table 6 that travel with the pack. -/
structure PackRecord where
  token : Token
  cls : PackClass
  damaged : Bool
  hops : Nat
  summary : Option Summary
  marks : List Mark
  overflow : Bool
  orphan : Bool
  deriving DecidableEq, Repr

/-- Table 6, a pack entry, with the hand-off controller's items of Table 13 that belong to one entry (target, adrift
timer, restart mark). -/
structure Entry where
  pack : PackRecord
  state : EntryState
  entered : Clock
  channel : Option ChannelId
  refusal : Option Reason
  target : Nat
  adrift : Timer
  restart : Bool
  deriving DecidableEq, Repr

/-- Table 12, the custody counts. -/
structure CustodyCounts where
  intake : Count
  arrived : Count
  orphan : Count
  handed : Count
  lost : Count
  shredded : Count
  removed : Count
  refusalsSent : Count
  refusalsReceived : Count
  withdrawals : Count
  strayArrived : Count
  strayMissing : Count
  strayRemovals : Count
  overflows : Count
  deriving DecidableEq, Repr

/-- The custody block (R2, R5, R6, R23). -/
structure Custody where
  list : List Entry
  nextSerial : Nat
  orphanSeq : Nat
  counts : CustodyCounts
  energy : BitVec 48
  deriving DecidableEq, Repr

/-- R27, the outstanding offer. -/
structure Offer where
  token : Token
  target : Nat
  deriving DecidableEq, Repr

/-- R32, the open expectation. -/
structure Expectation where
  pack : PackRecord
  offering : Nat
  deriving DecidableEq, Repr

/-- Table 13, the hand-off controller; `exitGate` is the EXIT output. -/
structure Handoff where
  offer : Option Offer
  reply : Timer
  retry : Timer
  gate : Timer
  exitGate : Bool
  expect : Option Expectation
  transit : Timer
  deriving DecidableEq, Repr

/-- R66, a channel's counts. -/
structure ChannelCounts where
  discharged : Count
  openCircuit : Count
  thermal : Count
  expired : Count
  stubborn : Count
  aborted : Count
  fire : Count
  rebounds : Count
  deriving DecidableEq, Repr

/-- Table 16, a discharge channel; `load` is the LOADx output, `window` the rest window of R77, `sampled` whether a
sample was taken since RUN entry (R53). -/
structure Channel where
  state : ChannelState
  token : Option Token
  holdSensor : Bool
  holdFlood : Bool
  holdHazard : Bool
  verdict : Option Verdict
  rebounds : Nat
  endCount : Nat
  noResp : Nat
  spent : Nat
  rest : Timer
  lastRest : Nat
  load : Nat
  duty : Nat
  charge : Int
  energy : Int
  peak : Int
  minVolts : Nat
  clipped : Bool
  netIn : Bool
  volts : Nat
  current : Int
  temp : Int
  window : List Nat
  sampled : Bool
  counts : ChannelCounts
  deriving DecidableEq, Repr

/-- R98, a point's counts. -/
structure PointCounts where
  alarms : Count
  faults : Count
  passes : Count
  fails : Count
  aborts : Count
  deriving DecidableEq, Repr

/-- R82–R92, a detector point. `history` holds the readings of a RATE point, newest first; `away` says that a pulse
input was away from its active level at some time in the present window (R90). -/
structure Point where
  reported : PointReport
  level : PointLevel
  band : Bool
  stuck : Bool
  noBaseline : Bool
  testFault : Bool
  recovery : Nat
  baseline : Option Int
  provisional : Option Int
  baseSum : Int
  baseCount : Nat
  baseScans : Nat
  history : List Int
  windowCount : Nat
  window : Timer
  away : Bool
  reading : Option Int
  compare : Option Int
  inBand : Option Int
  heldReading : Option Int
  result : Option TestResult
  resultTime : Option Clock
  counts : PointCounts
  deriving DecidableEq, Repr

/-- R93–R97, where the round in progress stands at its present point: its turn has come and the lamp is not on
(deferred, or an unsettled RATE point), the lamp is on, the release part runs (after an abort or a PASS), or the
point's test has ended and the round moves on inside the same command. -/
inductive TestPart where
  | waiting
  | lamp
  | release (aborted : Bool)
  | moving
  deriving DecidableEq, Repr

/-- R93, a self-test round in progress. -/
structure Round where
  startup : Bool
  point : PointId
  part : TestPart
  deriving DecidableEq, Repr

/-- The point scanner's shared items (R92–R97); `lamps` are the outputs TEST1–TEST4. -/
structure Scanner where
  round : Option Round
  testTimer : Timer
  releaseTimer : Timer
  intervalTimer : Timer
  lamps : Vector Bool 4
  deriving DecidableEq, Repr

/-- Table 22, the window of a PENDING zone. -/
inductive ZoneWindow where
  | none
  | running (ms : Nat)
  | lapsed
  deriving DecidableEq, Repr

/-- R112, a zone's counts. -/
structure ZoneCounts where
  confirmations : Count
  pendings : Count
  faults : Count
  restoresTaken : Count
  restoresRefused : Count
  deriving DecidableEq, Repr

/-- Table 22, a zone record. -/
structure Zone where
  status : ZoneStatus
  healthy : Nat
  mode : ZoneMode
  heldPoint : Option PointId
  heldTime : Option Clock
  window : ZoneWindow
  confirming : Option PointId
  confirmTime : Option Clock
  basis : Option Basis
  counts : ZoneCounts
  deriving DecidableEq, Repr

/-- Zone logic: the four zones, each point's reported state as last passed to it (R101), the persistence timers. -/
structure ZoneLogic where
  zones : Vector Zone 4
  members : Vector PointReport 12
  persist : Vector Timer 12
  deriving DecidableEq, Repr

/-- R114, a cause record. -/
structure CauseRecord where
  active : Bool
  level : Level
  latch : Bool
  activations : Count
  last : Option Clock
  deriving DecidableEq, Repr

/-- R115, the facts the evaluator keeps as reported. -/
structure Facts where
  points : Vector (Option PointReport) 12
  zoneFault : Vector Bool 4
  channel : Vector Bool 4
  oxygen : Bool
  labour : Bool
  deriving DecidableEq, Repr

/-- R124, the interval flags. -/
structure IntervalFlags where
  pointAlarm : Bool
  zonePending : Bool
  discrepancy : Bool
  linkErrors : Bool
  deriving DecidableEq, Repr

/-- The hazard evaluator (R114–R127); `safe` and `alert` are the outputs SAFE and ALERT. -/
structure Evaluator where
  causes : Vector CauseRecord 14
  zoneLatch : Vector Bool 4
  facts : Facts
  stopHold : Timer
  station : Hazard
  line : Hazard
  flags : IntervalFlags
  safe : Bool
  alert : Bool
  alarmsQueued : Count
  restores : Count
  deriving DecidableEq, Repr

/-- The atmosphere controller (R129–R137); `oxygen = none` is unknown, `o2High` the condition last reported. -/
structure Chamber where
  state : Atmos
  purgeOpen : Bool
  floodOpen : Bool
  confirmed : Vector Bool 4
  settle : Timer
  purge : Timer
  overrun : Bool
  oxygen : Option Nat
  o2High : Bool
  purgeTime : TimeTotal
  floodTime : TimeTotal
  exposure : TimeTotal
  degradedEntries : Count
  floods : Count
  deriving DecidableEq, Repr

/-- The rotor monitor (R138–R141); `run` is the RUN output. -/
structure Rotor where
  run : Bool
  last : Option Clock
  period : Option Clock
  stall : Timer
  upToSpeed : Bool
  slow : Nat
  labour : Bool
  starts : Count
  stalls : Count
  deriving DecidableEq, Repr

/-- The feed monitor (R142–R145); `gate` is the FEED output. -/
structure Feed where
  gate : Bool
  timer : Timer
  peak : Option Nat
  opened : Count
  timeouts : Count
  returned : Count
  deriving DecidableEq, Repr

/-- Table 27, a peer entry. -/
structure PeerEntry where
  heard : Bool
  role : Role
  phase : Option Phase
  hazard : Hazard
  listened : Hazard
  atmos : Atmos
  free : Nat
  count : Nat
  flags : IntervalFlags
  due : Bool
  clamped : Bool
  seq : Option Nat
  period : Option Nat
  lastHeard : Option Clock
  freshness : Freshness
  stale : Timer
  silent : Timer
  taken : BitVec 32
  missed : BitVec 32
  silences : BitVec 32
  restarts : BitVec 32
  deriving DecidableEq, Repr

/-- The peer view (R148–R159). -/
structure PeerView where
  entries : Vector PeerEntry 31
  grace : Timer
  gracePassed : Bool
  level : Level
  silent : Bool
  duplicates : Count
  badOrigins : Count
  deriving DecidableEq, Repr

/-- The fields of a STATUS (Table 38); `period` in units of 10 ms as sent. -/
structure StatusFields where
  role : Role
  phase : Phase
  hazard : Hazard
  atmos : Atmos
  free : Nat
  count : Nat
  flags : IntervalFlags
  due : Bool
  clamped : Bool
  fresh : Bool
  period : Nat
  seq : Nat
  deriving DecidableEq, Repr

/-- Table 38, what a telegram carries after its header. -/
inductive Payload where
  | alarm (cause : Cause) (zone point : Nat) (level : Level) (hazard : Hazard)
  | offer (pack : PackRecord)
  | accept (tok : Token)
  | refuse (tok : Token) (reason : Reason)
  | withdraw (tok : Token)
  | arrived (tok : Token)
  | missing (tok : Token)
  | status (fields : StatusFields)
  | query (item index part : Nat)
  | report (item index : Nat) (ok : Bool) (part : Nat) (answer : List Byte)
  deriving DecidableEq, Repr

/-- R162, a telegram: origin and destination station and its payload (the class follows from the kind). -/
structure Telegram where
  origin : Nat
  dest : Nat
  payload : Payload
  deriving DecidableEq, Repr

/-- R169, a slot of the transmit queue: a telegram and its attempt count (R166). -/
structure Slot where
  tg : Telegram
  attempts : Nat
  deriving DecidableEq, Repr

/-- R162, the four telegram classes. -/
inductive TxClass where
  | alarm | custody | status | report
  deriving DecidableEq, Repr

/-- What LTX carries: recessive, a frame's bits (true being recessive), or the dominant level of a burst. -/
inductive Ltx where
  | recessive
  | frame (bits : List Bool)
  | dominant
  deriving DecidableEq, Repr

/-- Table 31, the link counts. -/
structure LinkCounts where
  sent : Count
  received : Count
  losses : Count
  bitErrors : Count
  retryDrops : Count
  custodyDrops : Count
  displaced : Count
  replacements : Count
  framing : Count
  parity : Count
  crc : Count
  form : Count
  overruns : Count
  burstsEmitted : Count
  burstsDetected : Count
  deriving DecidableEq, Repr

/-- The line bus controller (R163–R175). `on` says that it acts (from entry to JOIN, or to FAULTED by R193);
`recessive` and `dominant` are the runs read so far; `sending` is the class whose head is in transmission; `lossAt` is the bit
of the arbitration byte at which arbitration was lost, for the frame now followed (R165). -/
structure Link where
  on : Bool
  state : LinkState
  recessive : Nat
  dominant : Nat
  alarms : List Slot
  custody : List Slot
  status : Option Slot
  heldStatus : Option Slot
  report : Option Slot
  sending : Option TxClass
  ltx : Ltx
  rx : List Telegram
  burstLeft : Nat
  lossAt : Option Nat
  nextSeq : Nat
  fresh : Bool
  statusTimer : Timer
  counts : LinkCounts
  deriving DecidableEq, Repr

/-- Table 32, a tally record; `verdict = none` is NONE. -/
structure TallyRecord where
  token : Token
  cls : PackClass
  damaged : Bool
  outcome : Removal
  verdict : Option Verdict
  energy : Nat
  hops : Nat
  marks : Nat
  overflow : Bool
  peak : Option Nat
  time : Clock
  dwell : Nat
  deriving DecidableEq, Repr

/-- The tally log (R176–R180). -/
structure Tally where
  bankA : List TallyRecord
  bankB : List TallyRecord
  filling : BankName
  due : Bool
  appended : BitVec 32
  dropped : BitVec 32
  turns : BitVec 32
  discarded : BitVec 32
  deriving DecidableEq, Repr

/-- R183, a counter snapshot: its number, the clock, the number of entries, and every count in snapshot order. -/
structure Snapshot where
  number : Nat
  clock : Clock
  entries : Nat
  counts : List (BitVec 32)
  deriving DecidableEq, Repr

/-- The service responder (R183, R185). -/
structure Responder where
  snapshot : Option Snapshot
  number : Nat
  answered : Count
  busy : Count
  refused : Count
  deriving DecidableEq, Repr

/-- The state of one SC-40. -/
structure State where
  pending : List Instr
  pins : Pins
  loader : Loader
  cfg : Config
  clock : Clock
  custody : Custody
  handoff : Handoff
  channels : Vector Channel 4
  points : Vector Point 12
  scanner : Scanner
  zones : ZoneLogic
  hazard : Evaluator
  chamber : Chamber
  rotor : Rotor
  feed : Feed
  peers : PeerView
  link : Link
  tally : Tally
  responder : Responder
  deriving DecidableEq, Repr

/-- A count at 0. -/
def Count.zero : Count := ⟨0, 0⟩

/-- A time total at 0. -/
def TimeTotal.zero : TimeTotal := ⟨0, 0⟩

/-- No interval flag set. -/
def IntervalFlags.clear : IntervalFlags := ⟨false, false, false, false⟩

/-- DESIGN CHOICE (log 5), unsafe: an input reads low before its first sample. -/
def Filter.low : Filter := ⟨false, false⟩

/-- DESIGN CHOICE (log 5), unsafe: RSTn, active low, reads high before its first sample. -/
def Filter.high : Filter := ⟨true, true⟩

/-- The inputs before any sample (log 5). -/
def Pins.reset : Pins :=
  { rstn := .high, straps := Vector.replicate 5 .low, cls := Vector.replicate 3 .low, dmg := .low,
    entry := .low, remove := .low, throat := .low, restore := .low, rotor := .low,
    conn := Vector.replicate 4 .low, pulse := Vector.replicate 4 .low, vsns := Vector.replicate 4 0 }

/-- R186: held in reset, nothing loaded. -/
def Loader.reset : Loader :=
  { held := true, phase := .load, own := 0, attempts := 0, spi := [], image := none, finding := none, clamped := false,
    baselineTimer := none }

/-- R24. -/
def Custody.reset : Custody :=
  { list := [], nextSerial := 1, orphanSeq := 0,
    counts := ⟨.zero, .zero, .zero, .zero, .zero, .zero, .zero, .zero, .zero, .zero, .zero, .zero, .zero, .zero⟩,
    energy := 0 }

/-- R49. -/
def Handoff.reset : Handoff :=
  { offer := none, reply := none, retry := none, gate := none, exitGate := false, expect := none, transit := none }

/-- R67, R80. -/
def Channel.reset : Channel :=
  { state := .empty, token := none, holdSensor := false, holdFlood := false, holdHazard := false, verdict := none,
    rebounds := 0, endCount := 0, noResp := 0, spent := 0, rest := none, lastRest := 0, load := 0, duty := 0,
    charge := 0, energy := 0, peak := -400, minVolts := 65535, clipped := false, netIn := false,
    volts := 0, current := 0, temp := 0, window := [], sampled := false,
    counts := ⟨.zero, .zero, .zero, .zero, .zero, .zero, .zero, .zero⟩ }

/-- R99. DESIGN CHOICE (log 5): the latest reading, the compare value and the last in-band and held readings, which R99
does not name, start at none. -/
def Point.reset : Point :=
  { reported := .normal, level := .normal, band := false, stuck := false, noBaseline := false, testFault := false,
    recovery := 0, baseline := none, provisional := none, baseSum := 0, baseCount := 0, baseScans := 0,
    history := [], windowCount := 0, window := none, away := false, reading := none, compare := none,
    inBand := none, heldReading := none, result := none, resultTime := none,
    counts := ⟨.zero, .zero, .zero, .zero, .zero⟩ }

/-- R99. -/
def Scanner.reset : Scanner :=
  { round := none, testTimer := none, releaseTimer := none, intervalTimer := none,
    lamps := Vector.replicate 4 false }

/-- R113, before CHECK has found the members (log 5). -/
def Zone.reset : Zone :=
  { status := .quiet, healthy := 0, mode := .coincidence, heldPoint := none, heldTime := none, window := .none,
    confirming := none, confirmTime := none, basis := none, counts := ⟨.zero, .zero, .zero, .zero, .zero⟩ }

/-- R113. -/
def ZoneLogic.reset : ZoneLogic :=
  { zones := Vector.replicate 4 .reset, members := Vector.replicate 12 .normal,
    persist := Vector.replicate 12 none }

/-- R114, R128: inactive, latch clear, no activation; the level before CHECK is given. -/
def CauseRecord.reset (l : Level) : CauseRecord :=
  { active := false, level := l, latch := false, activations := .zero, last := none }

/-- R128. Codes 3 and 12 are fixed at HIGH (Table 24); PEER_HAZARD is OFF; the rest wait for CHECK (log 5). -/
def Evaluator.reset : Evaluator :=
  { causes := ((Vector.replicate 14 (CauseRecord.reset .off)).set 2 (CauseRecord.reset .high)).set 11
      (CauseRecord.reset .high),
    zoneLatch := Vector.replicate 4 false,
    facts := { points := Vector.replicate 12 none, zoneFault := Vector.replicate 4 false,
               channel := Vector.replicate 4 false, oxygen := false, labour := false },
    stopHold := none, station := .clear, line := .clear, flags := .clear, safe := false, alert := false,
    alarmsQueued := .zero, restores := .zero }

/-- R147. -/
def Chamber.reset : Chamber :=
  { state := .inactive, purgeOpen := false, floodOpen := false, confirmed := Vector.replicate 4 false, settle := none,
    purge := none, overrun := false, oxygen := none, o2High := false, purgeTime := .zero, floodTime := .zero,
    exposure := .zero, degradedEntries := .zero, floods := .zero }

/-- R147. -/
def Rotor.reset : Rotor :=
  { run := false, last := none, period := none, stall := none, upToSpeed := false, slow := 0, labour := false,
    starts := .zero, stalls := .zero }

/-- R147. -/
def Feed.reset : Feed :=
  { gate := false, timer := none, peak := none, opened := .zero, timeouts := .zero, returned := .zero }

/-- R160. -/
def PeerEntry.reset : PeerEntry :=
  { heard := false, role := .unset, phase := none, hazard := .clear, listened := .clear, atmos := .inactive, free := 0,
    count := 0, flags := .clear, due := false, clamped := false, seq := none, period := none, lastHeard := none,
    freshness := .silent, stale := none, silent := none, taken := 0, missed := 0, silences := 0, restarts := 0 }

/-- R160. -/
def PeerView.reset : PeerView :=
  { entries := Vector.replicate 31 .reset, grace := none, gracePassed := false, level := .off, silent := false,
    duplicates := .zero, badOrigins := .zero }

/-- R175. -/
def Link.reset : Link :=
  { on := false, state := .unjoined, recessive := 0, dominant := 0, alarms := [], custody := [], status := none,
    heldStatus := none, report := none, sending := none, ltx := .recessive, rx := [], burstLeft := 0, lossAt := none,
    nextSeq := 0, fresh := true, statusTimer := none,
    counts := ⟨.zero, .zero, .zero, .zero, .zero, .zero, .zero, .zero, .zero, .zero, .zero, .zero, .zero, .zero,
      .zero⟩ }

/-- R180, after POR. -/
def Tally.reset : Tally :=
  { bankA := [], bankB := [], filling := .a, due := false, appended := 0, dropped := 0, turns := 0, discarded := 0 }

/-- R185. -/
def Responder.reset : Responder :=
  { snapshot := none, number := 0, answered := .zero, busy := .zero, refused := .zero }

/-- The machine after power-on reset, held in reset until the supply is established (R186, R194; log 3). -/
def State.reset : State :=
  { pending := [], pins := .reset, loader := .reset, cfg := .blank, clock := 0, custody := .reset,
    handoff := .reset, channels := Vector.replicate 4 .reset, points := Vector.replicate 12 .reset,
    scanner := .reset, zones := .reset, hazard := .reset, chamber := .reset, rotor := .reset, feed := .reset,
    peers := .reset, link := .reset, tally := .reset, responder := .reset }

end Sys2Proof.Machine
end

