-- ==== Sys2Proof/Machine/Operands.lean ====
section
/-! DEFINITION. What the operands of a command say: the two-sample agreement filter of the digital inputs (R1), the
converter ranges (R69, R83), runs of line bits (R161, R163, R173). -/
namespace Sys2Proof.Machine

/-- Entry `i` of a table changed by `f`. -/
def modifyAt {α : Type} {n : Nat} (v : Vector α n) (i : Fin n) (f : α → α) : Vector α n :=
  v.set i (f v[i])

/-- R1: the filtered level takes a new value when two consecutive samples agree on that value. -/
def Filter.sample (f : Filter) (b : Bool) : Filter :=
  if b = f.last then ⟨b, b⟩ else ⟨f.level, b⟩

/-- The filter after a run of samples. -/
def Filter.run : Filter → List Bool → Filter
  | f, [] => f
  | f, b :: bs => (f.sample b).run bs

/-- The number of changes of the filtered level to `toLevel` over a run of samples. -/
def Filter.edges (toLevel : Bool) : Filter → List Bool → Nat
  | _, [] => 0
  | f, b :: bs =>
    (if f.level ≠ toLevel ∧ (f.sample b).level = toLevel then 1 else 0) + Filter.edges toLevel (f.sample b) bs

/-- Whether the filtered level stood at `v` after any of the samples. -/
def Filter.visits (v : Bool) : Filter → List Bool → Bool
  | _, [] => false
  | f, b :: bs => (f.sample b).level == v || Filter.visits v (f.sample b) bs

/-- A rise of the filtered input (R1). -/
def Filter.rises (f : Filter) (samples : List Bool) : Bool := 0 < Filter.edges true f samples

/-- A fall of the filtered input (R1). -/
def Filter.falls (f : Filter) (samples : List Bool) : Bool := 0 < Filter.edges false f samples

/-- R1: a group of inputs takes its samples, each input its own bit of them. -/
def runGroup {n : Nat} (fs : Vector Filter n) (samples : List (BitVec n)) : Vector Filter n :=
  tabulate fun i => fs[i].run (samples.map (·.getLsbD i))

/-- R4, R186: the filtered levels of a group of inputs, pin 0 the least significant bit, a high pin counting 1. -/
def levelsOf {n : Nat} (fs : Vector Filter n) : BitVec n :=
  BitVec.ofNat n (fs.toList.foldr (fun f k => 2 * k + f.level.toNat) 0)

/-- R69: a voltage converter holds its result at the end of its range. -/
def holdVolts (v : Nat) : Nat := min v 65535

/-- A reading held at the ends of a range (R69, R83). -/
def holdBetween (low high : Int) (x : Int) : Int := max low (min high x)

/-- R69: a current converter holds its result at the ends of its range. -/
def holdCurrent (i : Int) : Int := holdBetween (-32768) 32767 i

/-- A temperature converter's result, a signed 16-bit number of 0.1 °C (Table 4; log 14). -/
def holdTemp (t : Int) : Int := holdBetween (-32768) 32767 t

/-- R83: the converter holds the reading at the end of the kind's range (Table 4). -/
def holdReading (k : PointKind) (r : Int) : Int :=
  match k with
  | .heat => holdBetween (-32768) 32767 r
  | .oxygen => holdBetween 0 2500 r
  | .vapour => holdBetween 0 65535 r
  | .disabled | .flame | .spark => r

/-- R51: a temperature reading from −400 to 2,000 inclusive is in range. -/
def tempOk (t : Int) : Bool := -400 ≤ t && t ≤ 2000

/-- The recessive run after the bits read, a dominant bit setting it back to 0 (R163). -/
def recessiveRun : Nat → List Bool → Nat
  | n, [] => n
  | n, b :: bs => recessiveRun (if b then n + 1 else 0) bs

/-- The dominant run after the bits read (R173). -/
def dominantRun : Nat → List Bool → Nat
  | n, [] => n
  | n, b :: bs => dominantRun (if b then 0 else n + 1) bs

/-- The bits bring a recessive run to `goal` bit times at their last bit and not before (R163). -/
def reachesRecessive (goal : Nat) (n : Nat) (bits : List Bool) : Bool :=
  recessiveRun n bits == goal && (List.range bits.length).all fun k => recessiveRun n (bits.take k) < goal

/-- The bits bring a dominant run to 16 bit times at their last bit and not before (R173). -/
def reachesBurst (n : Nat) (bits : List Bool) : Bool :=
  !bits.isEmpty && dominantRun n bits == 16
    && (List.range (bits.length - 1)).all fun k => dominantRun n (bits.take (k + 1)) != 16

/-- The position of the first bit read back that differs from the bit driven (R164, R165, R166). -/
def firstMismatch : List Bool → List Bool → Option Nat
  | d :: ds, r :: rs => if d = r then (firstMismatch ds rs).map (· + 1) else some 0
  | _, _ => none

/-- R165: a mismatch in the eight data bits of the arbitration byte, at a bit driven recessive, loses arbitration. -/
def arbitrationBit (driven : List Bool) (k : Nat) : Bool := 1 ≤ k && k ≤ 8 && driven[k]? == some true

/-- R165: the bit at which the read-back loses arbitration, where that is its last bit. -/
def arbitrationLoss (driven readBack : List Bool) : Option Nat :=
  (firstMismatch driven readBack).filter fun k => readBack.length == k + 1 && arbitrationBit driven k

/-- How the wait for the line to be read recessive stands (R166, R167): not over, over at the last bit read, a stop burst
at the last bit read, or over before it. -/
inductive WaitEnd where
  | waiting
  | recessive
  | burst
  | past
  deriving DecidableEq, Repr

/-- R166, R167, R173: a dominant run of `n` bit times followed bit by bit until the line is read recessive or the run
reaches 16 bit times, which is a stop burst. -/
def waitRecessive : Nat → List Bool → WaitEnd
  | n, [] => if n < 16 then .waiting else if n = 16 then .burst else .past
  | n, b :: bs =>
    if 16 ≤ n then .past
    else if b then (if bs.isEmpty then .recessive else .past)
    else waitRecessive (n + 1) bs

/-- R166: how a read-back with a mismatch that is no loss of arbitration is judged. A mismatch read recessive is judged
at once (DESIGN CHOICE, log 48); one read dominant when the line is next read recessive, the run that contains it counted from
its first bit. -/
def judgeMismatch (driven readBack : List Bool) : WaitEnd :=
  match firstMismatch driven readBack with
  | some k =>
    if arbitrationBit driven k then .past
    else if readBack[k]? = some true then (if readBack.length = k + 1 then .recessive else .past)
    else waitRecessive (dominantRun 0 (readBack.take (k + 1))) (readBack.drop (k + 1))
  | none => .waiting

end Sys2Proof.Machine
end

