-- ==== Sys2Proof/Machine/Update.lean ====
section
/-! DEFINITION. Updates of one block of the state: `s.onLink f` is `s` with its link controller changed by `f`.
Every operation writes the state through these, so that the lemmas of Sys2Proof/Laws/State.lean settle what a
change leaves alone. -/
namespace Sys2Proof.Machine

/-- `s` with its `pins` changed by `f`. -/
def State.onPins (s : State) (f : Pins → Pins) : State :=
  { s with pins := f s.pins }

/-- `s` with its `loader` changed by `f`. -/
def State.onLoader (s : State) (f : Loader → Loader) : State :=
  { s with loader := f s.loader }

/-- `s` with its `cfg` changed by `f`. -/
def State.onCfg (s : State) (f : Config → Config) : State :=
  { s with cfg := f s.cfg }

/-- `s` with its `clock` changed by `f`. -/
def State.onClock (s : State) (f : Clock → Clock) : State :=
  { s with clock := f s.clock }

/-- `s` with its `custody` changed by `f`. -/
def State.onCustody (s : State) (f : Custody → Custody) : State :=
  { s with custody := f s.custody }

/-- `s` with its `handoff` changed by `f`. -/
def State.onHandoff (s : State) (f : Handoff → Handoff) : State :=
  { s with handoff := f s.handoff }

/-- `s` with its `channels` changed by `f`. -/
def State.onChannels (s : State) (f : Vector Channel 4 → Vector Channel 4) : State :=
  { s with channels := f s.channels }

/-- `s` with its `points` changed by `f`. -/
def State.onPoints (s : State) (f : Vector Point 12 → Vector Point 12) : State :=
  { s with points := f s.points }

/-- `s` with its `scanner` changed by `f`. -/
def State.onScanner (s : State) (f : Scanner → Scanner) : State :=
  { s with scanner := f s.scanner }

/-- `s` with its `zones` changed by `f`. -/
def State.onZones (s : State) (f : ZoneLogic → ZoneLogic) : State :=
  { s with zones := f s.zones }

/-- `s` with its `hazard` changed by `f`. -/
def State.onHazard (s : State) (f : Evaluator → Evaluator) : State :=
  { s with hazard := f s.hazard }

/-- `s` with its `chamber` changed by `f`. -/
def State.onChamber (s : State) (f : Chamber → Chamber) : State :=
  { s with chamber := f s.chamber }

/-- `s` with its `rotor` changed by `f`. -/
def State.onRotor (s : State) (f : Rotor → Rotor) : State :=
  { s with rotor := f s.rotor }

/-- `s` with its `feed` changed by `f`. -/
def State.onFeed (s : State) (f : Feed → Feed) : State :=
  { s with feed := f s.feed }

/-- `s` with its `peers` changed by `f`. -/
def State.onPeers (s : State) (f : PeerView → PeerView) : State :=
  { s with peers := f s.peers }

/-- `s` with its `link` changed by `f`. -/
def State.onLink (s : State) (f : Link → Link) : State :=
  { s with link := f s.link }

/-- `s` with its `tally` changed by `f`. -/
def State.onTally (s : State) (f : Tally → Tally) : State :=
  { s with tally := f s.tally }

/-- `s` with its `responder` changed by `f`. -/
def State.onResponder (s : State) (f : Responder → Responder) : State :=
  { s with responder := f s.responder }

end Sys2Proof.Machine
end

