-- ==== Sys2Proof/Machine/Flags.lean ====
section
/-! DEFINITION. Levels, hazards, flags, counts and timers: the orders of 00 Conventions, the two hazards of R120, the
safety outputs of R125, the interval flags of R124, wrapping counts (R23) and timers. -/
namespace Sys2Proof.Machine

/-- The order of levels, OFF < LOW < NOMINAL < HIGH. -/
def Level.rank : Level → Nat
  | .off => 0 | .low => 1 | .nominal => 2 | .high => 3

/-- The order of hazards, CLEAR < CAUTION < HOLD < STOP. -/
def Hazard.rank : Hazard → Nat
  | .clear => 0 | .caution => 1 | .hold => 2 | .stop => 3

/-- R119: the hazard a level contributes; OFF contributes nothing. -/
def Level.toHazard : Level → Hazard
  | .off => .clear | .low => .caution | .nominal => .hold | .high => .stop

/-- The higher of two hazards. -/
def Hazard.sup (a b : Hazard) : Hazard := if Hazard.rank a < Hazard.rank b then b else a

/-- The higher of two levels. -/
def Level.sup (a b : Level) : Level := if Level.rank a < Level.rank b then b else a

/-- Hazard HOLD or STOP. -/
def Hazard.atHold (h : Hazard) : Bool := 2 ≤ Hazard.rank h

/-- Table 24: the code of a cause less 1. -/
def Cause.index : Cause → Fin 14
  | .pointWarn => 0 | .pointAlarm => 1 | .zoneConfirmed => 2 | .pointFault => 3 | .o2High => 4 | .thermal => 5
  | .channelFault => 6 | .rotorStall => 7 | .rotorLabour => 8 | .peerHazard => 9 | .peerSilent => 10
  | .lineStop => 11 | .custodyDiscrepancy => 12 | .linkFault => 13

/-- The causes in code order. -/
def allCauses : List Cause :=
  [.pointWarn, .pointAlarm, .zoneConfirmed, .pointFault, .o2High, .thermal, .channelFault, .rotorStall,
   .rotorLabour, .peerHazard, .peerSilent, .lineStop, .custodyDiscrepancy, .linkFault]

/-- R114: causes 1 to 9, 13 and 14 are local; 10, 11 and 12 are peer-derived. -/
def Cause.isLocal : Cause → Bool
  | .peerHazard | .peerSilent | .lineStop => false
  | _ => true

/-- R119: what a cause contributes. -/
def CauseRecord.hazard (r : CauseRecord) : Hazard := if r.active then Level.toHazard r.level else .clear

/-- R120: the highest hazard contributed by the active causes that `sel` selects. -/
def hazardOver (sel : Cause → Bool) (causes : Vector CauseRecord 14) : Hazard :=
  allCauses.foldl (fun h c => if sel c then Hazard.sup h (causes[Cause.index c]).hazard else h) .clear

/-- R120, the station hazard: the local causes. -/
def stationHazard (causes : Vector CauseRecord 14) : Hazard := hazardOver Cause.isLocal causes

/-- R120, the line hazard: the station hazard and the peer-derived causes. -/
def lineHazard (causes : Vector CauseRecord 14) : Hazard :=
  Hazard.sup (stationHazard causes) (hazardOver (fun c => !Cause.isLocal c) causes)

/-- R125: SAFE is energised while the phase is RUN and the line hazard is below STOP. -/
def safeOutput (p : Phase) (line : Hazard) : Bool := p == .run && Hazard.rank line < 3

/-- R125: ALERT is asserted while the line hazard is CAUTION, HOLD or STOP. -/
def alertOutput (line : Hazard) : Bool := 0 < Hazard.rank line

/-- The flags of both (R170). -/
def IntervalFlags.or (a b : IntervalFlags) : IntervalFlags :=
  ⟨a.pointAlarm || b.pointAlarm, a.zonePending || b.zonePending, a.discrepancy || b.discrepancy,
   a.linkErrors || b.linkErrors⟩

/-- R23: a count rises by 1, session and lifetime, each wrapping at 2^32. -/
def Count.bump (c : Count) : Count := ⟨c.session + 1, c.lifetime + 1⟩

/-- R165: a count is set back by the 1 it gained. -/
def Count.unbump (c : Count) : Count := ⟨c.session - 1, c.lifetime - 1⟩

/-- What pin reset keeps of a count (R194). -/
def Count.keep (c : Count) : Count := ⟨0, c.lifetime⟩

/-- R137: one millisecond is added to a total. -/
def TimeTotal.bump (t : TimeTotal) : TimeTotal := ⟨t.session + 1, t.lifetime + 1⟩

/-- What pin reset keeps of a time total (R147, R194). -/
def TimeTotal.keep (t : TimeTotal) : TimeTotal := ⟨0, t.lifetime⟩

/-- One millisecond off a running timer (log 1). -/
def tickTimer : Timer → Timer
  | some n => some (n - 1)
  | none => none

/-- The start phase is RUN. -/
abbrev State.running (s : State) : Prop := s.loader.phase = .run

/-- The roles with an upstream side (R25). -/
def Role.offers : Role → Bool
  | .intake | .discharge | .transfer => true
  | .shredder | .quarantine | .unset => false

/-- R124: a flag of the evaluator is set, in RUN only (R126). -/
def flagLinkError (s : State) : State :=
  if s.running then s.onHazard fun h => { h with flags := { h.flags with linkErrors := true } } else s

/-- R124: "point alarm seen". -/
def flagPointAlarm (s : State) : State :=
  if s.running then s.onHazard fun h => { h with flags := { h.flags with pointAlarm := true } } else s

/-- R124: "zone pending seen". -/
def flagZonePending (s : State) : State :=
  if s.running then s.onHazard fun h => { h with flags := { h.flags with zonePending := true } } else s

/-- R124: "discrepancy seen". -/
def flagDiscrepancy (s : State) : State :=
  if s.running then s.onHazard fun h => { h with flags := { h.flags with discrepancy := true } } else s

end Sys2Proof.Machine
end

