-- ==== Sys2Proof/Machine/Format.lean ====
section
/-! DEFINITION. Byte layouts: codes (Table 37), numbers high byte first, the CRC and the characters of the line (R161,
R162), telegrams (Tables 38 and 39) and their form check (R195). -/
namespace Sys2Proof.Machine

/-- A number below 256 as a byte. -/
def byteOf (n : Nat) : Byte := BitVec.ofNat 8 n

/-- The low `k` bytes of a number, high byte first (chapter 13). -/
def beBytes : Nat → Nat → List Byte
  | 0, _ => []
  | k + 1, n => byteOf (n / 256 ^ k) :: beBytes k n

/-- A signed number in `k` bytes, two's complement, high byte first (chapter 13). -/
def signedBytes (k : Nat) (x : Int) : List Byte := beBytes k (x % (256 ^ k : Nat)).toNat

/-- The number that bytes give, high byte first. -/
def beNat : List Byte → Nat
  | [] => 0
  | b :: bs => b.toNat * 256 ^ bs.length + beNat bs

/-- A signed number from its bytes. -/
def beSigned (bs : List Byte) : Int :=
  if beNat bs < 256 ^ bs.length / 2 then (beNat bs : Int) else (beNat bs : Int) - (256 ^ bs.length : Nat)

/-- Bit 7 for true, the rest 0: one flag, or the first of a set (Table 40). -/
def flagBits : List Bool → Byte
  | flags => byteOf ((List.range 8).foldl (fun n k => n + (if flags[k]? = some true then 2 ^ (7 - k) else 0)) 0)

/-- The bits of a number, most significant first. -/
def natBits : Nat → Nat → List Bool
  | 0, _ => []
  | w + 1, n => (n / 2 ^ w % 2 == 1) :: natBits w n

/-- The number that bits give, most significant first. -/
def bitsNat : List Bool → Nat
  | [] => 0
  | b :: bs => (if b then 2 ^ bs.length else 0) + bitsNat bs

/-- Bits packed most significant first into whole bytes, unused trailing bits at 0 (Table 39). -/
def packBits : List Bool → List Byte
  | a :: b :: c :: d :: e :: f :: g :: h :: rest => byteOf (bitsNat [a, b, c, d, e, f, g, h]) :: packBits rest
  | [] => []
  | short => [byteOf (bitsNat (short ++ List.replicate (8 - short.length) false))]

/-- The bits of bytes, most significant first. -/
def unpackBits : List Byte → List Bool
  | [] => []
  | b :: bs => natBits 8 b.toNat ++ unpackBits bs

/-- R162: one bit through the generator x^16 + x^12 + x^5 + 1. -/
def crcBit (r : BitVec 16) (b : Bool) : BitVec 16 :=
  if r.msb != b then (r <<< 1) ^^^ 0x1021#16 else r <<< 1

/-- R162: one byte, most significant bit first. -/
def crcByte (r : BitVec 16) (b : Byte) : BitVec 16 := (natBits 8 b.toNat).foldl crcBit r

/-- R162, R187: the register starts at all ones, with no final inversion. -/
def crc16 (bs : List Byte) : BitVec 16 := bs.foldl crcByte 0xFFFF#16

/-- R161: the 11-bit character of a byte, first bit on the line in bit 10: start dominant, data most significant
first, even parity, stop recessive. -/
def charOf (b : Byte) : BitVec 11 :=
  BitVec.ofNat 11 (b.toNat * 4 + ((natBits 8 b.toNat).count true % 2) * 2 + 1)

/-- What the controller finds in one character (R167, in the order of its table). -/
inductive CharFinding where
  | good (b : Byte)
  | noStart
  | noStop
  | parity
  deriving DecidableEq, Repr

/-- R161, R167: the byte of a character, or what is wrong with it. -/
def readChar (c : BitVec 11) : CharFinding :=
  let b := byteOf (c.toNat / 4 % 256)
  if c.toNat / 1024 = 1 then .noStart
  else if c.toNat % 2 = 0 then .noStop
  else if c.toNat / 2 % 2 ≠ (natBits 8 b.toNat).count true % 2 then .parity
  else .good b

/-- The bits of a frame's bytes on the line, `true` being recessive (R161: sent back to back). -/
def lineBits : List Byte → List Bool
  | [] => []
  | b :: bs => natBits 11 (charOf b).toNat ++ lineBits bs

/-! Codes of Table 37. -/

def Role.code : Role → Nat
  | .unset => 0 | .intake => 1 | .discharge => 2 | .transfer => 3 | .shredder => 4 | .quarantine => 5

def Role.ofCode : Nat → Option Role
  | 0 => some .unset | 1 => some .intake | 2 => some .discharge | 3 => some .transfer | 4 => some .shredder
  | 5 => some .quarantine | _ => none

def Phase.code : Phase → Nat
  | .load => 0 | .check => 1 | .join => 2 | .test => 3 | .baseline => 4 | .run => 5 | .faulted => 6

def Phase.ofCode : Nat → Option Phase
  | 0 => some .load | 1 => some .check | 2 => some .join | 3 => some .test | 4 => some .baseline | 5 => some .run
  | 6 => some .faulted | _ => none

def Hazard.ofCode : Nat → Option Hazard
  | 0 => some .clear | 1 => some .caution | 2 => some .hold | 3 => some .stop | _ => none

def Level.ofCode : Nat → Option Level
  | 0 => some .off | 1 => some .low | 2 => some .nominal | 3 => some .high | _ => none

def Atmos.code : Atmos → Nat
  | .inactive => 0 | .purge => 1 | .inert => 2 | .degraded => 3 | .flood => 4

def Atmos.ofCode : Nat → Option Atmos
  | 0 => some .inactive | 1 => some .purge | 2 => some .inert | 3 => some .degraded | 4 => some .flood | _ => none

def PackClass.code : PackClass → Nat
  | .unknown => 0 | .nmc => 1 | .nca => 2 | .lfp => 3 | .lmo => 4 | .other => 5

def PackClass.ofCode : Nat → Option PackClass
  | 0 => some .unknown | 1 => some .nmc | 2 => some .nca | 3 => some .lfp | 4 => some .lmo | 5 => some .other
  | _ => none

def Verdict.code : Verdict → Nat
  | .discharged => 1 | .openCircuit => 2 | .thermal => 3 | .expired => 4 | .stubborn => 5 | .aborted => 6 | .fire => 7

def Verdict.ofCode : Nat → Option Verdict
  | 1 => some .discharged | 2 => some .openCircuit | 3 => some .thermal | 4 => some .expired | 5 => some .stubborn
  | 6 => some .aborted | 7 => some .fire | _ => none

/-- A verdict, or NONE 0. -/
def verdictCode : Option Verdict → Nat
  | some v => Verdict.code v
  | none => 0

def Removal.code : Removal → Nat
  | .shredded => 0 | .removed => 1 | .lost => 2 | .orphanShredded => 3

def Reason.code : Reason → Nat
  | .busy => 1 | .full => 2 | .hazard => 3 | .duplicate => 4 | .hops => 5 | .notDischarged => 6 | .overVoltage => 7
  | .packClass => 8 | .notInert => 9

def Reason.ofCode : Nat → Option Reason
  | 1 => some .busy | 2 => some .full | 3 => some .hazard | 4 => some .duplicate | 5 => some .hops
  | 6 => some .notDischarged | 7 => some .overVoltage | 8 => some .packClass | 9 => some .notInert | _ => none

def Cause.code (c : Cause) : Nat := (Cause.index c).val + 1

def Cause.ofCode : Nat → Option Cause
  | 0 => none
  | n + 1 => allCauses[n]?

/-- Table 8: the class that the pins give, CLASS0 least significant (R4). -/
def PackClass.ofPins (p : BitVec 3) : PackClass :=
  match PackClass.ofCode p.toNat with
  | some c => c
  | none => .unknown

/-- Table 37: the kind code of a payload. -/
def Payload.kind : Payload → Nat
  | .alarm .. => 0x01 | .offer _ => 0x10 | .accept _ => 0x11 | .refuse .. => 0x12 | .withdraw _ => 0x13
  | .arrived _ => 0x14 | .missing _ => 0x15 | .status _ => 0x20 | .query .. => 0x30 | .report .. => 0x31

/-- R162: the class follows from the kind. -/
def Payload.txClass : Payload → TxClass
  | .alarm .. => .alarm
  | .offer _ | .accept _ | .refuse .. | .withdraw _ | .arrived _ | .missing _ => .custody
  | .status _ => .status
  | .query .. | .report .. => .report

/-- The class number of the arbitration byte. -/
def TxClass.number : TxClass → Nat
  | .alarm => 0 | .custody => 1 | .status => 2 | .report => 3

/-- A token's four bytes, with `hi` in bits 7–5 of the first (chapter 13). -/
def tokenBytes (hi : Nat) (t : Token) : List Byte := byteOf (hi * 32 + t.origin) :: beBytes 3 t.serial

/-- The four bytes of a token, or zeros for none (Table 40). -/
def optTokenBytes : Option Token → List Byte
  | some t => tokenBytes 0 t
  | none => beBytes 4 0

/-- Table 39: the marks, 9 bits each. -/
def markBytes (ms : List Mark) : List Byte :=
  packBits (ms.flatMap fun m => natBits 4 (Cause.code m.cause) ++ natBits 5 m.station)

/-- Table 39, bytes 6–18: the summary. -/
def summaryBytes (m : Summary) : List Byte :=
  byteOf (Verdict.code m.verdict * 32 + m.rebounds * 4 + m.clipped.toNat * 2 + m.netIn.toNat)
    :: (beBytes 4 m.energy ++ beBytes 4 m.charge ++ beBytes 2 m.restVolts ++ signedBytes 2 m.peak)

/-- Table 39, the OFFER pack record. -/
def packBytes (p : PackRecord) : List Byte :=
  tokenBytes (PackClass.code p.cls) p.token
    ++ [byteOf (p.hops * 16 + p.summary.isSome.toNat * 8 + p.marks.length),
        byteOf (p.damaged.toNat * 128 + p.orphan.toNat * 64 + p.overflow.toNat * 32
          + (match p.summary with | some m => m.station | none => 0))]
    ++ (match p.summary with | some m => summaryBytes m | none => [])
    ++ markBytes p.marks

/-- Table 38: the STATUS flags byte. -/
def statusFlags (f : StatusFields) : Byte :=
  flagBits [false, f.flags.pointAlarm, f.flags.zonePending, f.flags.discrepancy, f.flags.linkErrors, f.due, f.clamped,
    f.fresh]

/-- Table 38: the payload bytes of each kind. DESIGN CHOICE (log 45): a REPORT that answers a part above 15 carries the part's
low four bits. -/
def payloadBytes : Payload → List Byte
  | .alarm c z p l h => [byteOf (Cause.code c), byteOf z, byteOf p, byteOf (Level.rank l), byteOf (Hazard.rank h)]
  | .offer pack => packBytes pack
  | .accept t | .withdraw t | .arrived t | .missing t => tokenBytes 0 t
  | .refuse t r => tokenBytes 0 t ++ [byteOf (Reason.code r)]
  | .status f =>
    [byteOf (Role.code f.role), byteOf (Phase.code f.phase), byteOf (Hazard.rank f.hazard), byteOf (Atmos.code f.atmos),
     byteOf f.free, byteOf f.count, statusFlags f, byteOf f.period, byteOf f.seq]
  | .query item index part => [byteOf item, byteOf index, byteOf part]
  | .report item index ok part answer => byteOf item :: byteOf index :: byteOf (ok.toNat * 128 + part % 16) :: answer

/-- R162: arbitration byte, kind, destination, length and payload of a telegram. -/
def telegramBytes (t : Telegram) : List Byte :=
  byteOf (TxClass.number (Payload.txClass t.payload) * 64 + t.origin * 2) :: byteOf (Payload.kind t.payload)
    :: byteOf t.dest :: byteOf (payloadBytes t.payload).length :: payloadBytes t.payload

/-- R162: a telegram with its CRC, high byte first. -/
def frameBytes (t : Telegram) : List Byte := telegramBytes t ++ beBytes 2 (crc16 (telegramBytes t)).toNat

/-! The form check of R195, by which a receiver reads a telegram. -/

/-- R195: a custody token, no serial 0, no origin 0. -/
def readToken (bs : List Byte) : Option Token :=
  let t : Token := ⟨(bs.headD 0).toNat % 32, beNat (bs.tail.take 3)⟩
  if t.origin = 0 ∨ t.serial = 0 then none else some t

/-- Table 39: the marks, each with a cause in its range. -/
def readMarks : Nat → List Bool → Option (List Mark)
  | 0, _ => some []
  | n + 1, bits => do
    let c ← Cause.ofCode (bitsNat (bits.take 4))
    let rest ← readMarks n (bits.drop 9)
    some (⟨c, bitsNat ((bits.drop 4).take 5)⟩ :: rest)

/-- Table 39: bytes taken by 0 to 4 marks. -/
def markLength (n : Nat) : Nat := (9 * n + 7) / 8

/-- Table 39: the summary of an OFFER, `station` being the discharging station of byte 5. -/
def readSummary (station : Nat) (bs : List Byte) : Option Summary := do
  let b := (bs.headD 0).toNat
  let v ← Verdict.ofCode (b / 32)
  some { verdict := v, rebounds := b / 4 % 8, clipped := b / 2 % 2 == 1, netIn := b % 2 == 1,
         energy := beNat ((bs.drop 1).take 4), charge := beNat ((bs.drop 5).take 4),
         restVolts := beNat ((bs.drop 9).take 2), peak := beSigned ((bs.drop 11).take 2), station }

/-- R195 for an OFFER: the length its bytes 4 and 5 give, codes in range, a token, marks in range. -/
def readPack (bs : List Byte) : Option PackRecord := do
  if bs.length < 6 then none else
  let b0 := (bs.headD 0).toNat
  let b4 := ((bs.drop 4).headD 0).toNat
  let b5 := ((bs.drop 5).headD 0).toNat
  let hasSummary := b4 / 8 % 2 == 1
  let nMarks := b4 % 8
  if nMarks > 4 ∨ bs.length ≠ 6 + (if hasSummary then 13 else 0) + markLength nMarks then none else
  let tok ← readToken bs
  let cls ← PackClass.ofCode (b0 / 32)
  let sum ← if hasSummary then (readSummary (b5 % 32) (bs.drop 6)).map some else some none
  let marks ← readMarks nMarks (unpackBits (bs.drop (if hasSummary then 19 else 6)))
  some { token := tok, cls, damaged := b5 / 128 == 1, hops := b4 / 16, summary := sum, marks,
         overflow := b5 / 32 % 2 == 1, orphan := b5 / 64 % 2 == 1 }

/-- R195 for a STATUS: codes, free capacity and custody count in range. -/
def readStatus : List Byte → Option StatusFields
  | [role, phase, hazard, atmos, free, count, flags, period, seq] => do
    let r ← Role.ofCode role.toNat
    let p ← Phase.ofCode phase.toNat
    let h ← Hazard.ofCode hazard.toNat
    let a ← Atmos.ofCode atmos.toNat
    if free.toNat > 16 ∨ count.toNat > 16 then none else
    let f (k : Nat) : Bool := flags.toNat / 2 ^ k % 2 == 1
    some { role := r, phase := p, hazard := h, atmos := a, free := free.toNat, count := count.toNat,
           flags := ⟨f 6, f 5, f 4, f 3⟩, due := f 2, clamped := f 1, fresh := f 0, period := period.toNat,
           seq := seq.toNat }
  | _ => none

/-- R195 for an ALARM: cause, zone, point, level and hazard in range. -/
def readAlarm : List Byte → Option Payload
  | [c, z, p, l, h] => do
    let c ← Cause.ofCode c.toNat
    let l ← Level.ofCode l.toNat
    let h ← Hazard.ofCode h.toNat
    if z.toNat > 4 ∨ p.toNat > 12 then none else some (.alarm c z.toNat p.toNat l h)
  | _ => none

/-- A payload of one token, length 4. -/
def readTokenOnly (mk : Token → Payload) (bs : List Byte) : Option Payload :=
  if bs.length = 4 then (readToken bs).map mk else none

/-- R195: the payload of a kind, or none where the form check fails. DESIGN CHOICE: a QUERY's part above 15 is no form error
(log 45), and the answer bytes of a REPORT are not checked (log 46). -/
def readPayload (kind : Nat) (bs : List Byte) : Option Payload :=
  match kind with
  | 0x01 => readAlarm bs
  | 0x10 => (readPack bs).map .offer
  | 0x11 => readTokenOnly .accept bs
  | 0x12 => if bs.length = 5 then do
      let t ← readToken bs
      let r ← Reason.ofCode ((bs.drop 4).headD 0).toNat
      some (.refuse t r) else none
  | 0x13 => readTokenOnly .withdraw bs
  | 0x14 => readTokenOnly .arrived bs
  | 0x15 => readTokenOnly .missing bs
  | 0x20 => (readStatus bs).map .status
  | 0x30 => match bs with
    | [item, index, part] => some (.query item.toNat index.toNat part.toNat)
    | _ => none
  | 0x31 => match bs with
    | item :: index :: st :: answer =>
      if 1 ≤ item.toNat ∧ item.toNat ≤ 11 then
        some (.report item.toNat index.toNat (st.toNat / 128 == 1) (st.toNat % 16) answer)
      else none
    | _ => none
  | _ => none

/-- R162, R195: a telegram from its bytes before the CRC: arbitration byte, kind, destination, length, payload. The
class bits must agree with the kind and bit 0 be 0. -/
def readTelegram : List Byte → Option Telegram
  | arb :: kind :: dest :: _len :: payload => do
    let p ← readPayload kind.toNat payload
    if arb.toNat % 2 = 1 ∨ arb.toNat / 64 ≠ TxClass.number (Payload.txClass p) then none
    else some ⟨arb.toNat / 2 % 32, dest.toNat, p⟩
  | _ => none

end Sys2Proof.Machine
end

