-- ==== Sys2Proof/Machine/Notice.lean ====
section
/-! DEFINITION. What one block hands to another inside one command. The manual has each owner take a change "as its
own event" within the step that makes it (R91, R111, R121, 95_what_each_step_holds.md); a `Notice` is one such event. -/
namespace Sys2Proof.Machine

/-- R115: a fact reported to the hazard evaluator. -/
inductive Fact where
  | point (p : PointId) (st : PointReport)
  | zoneFault (z : ZoneId) (b : Bool)
  | channel (c : ChannelId) (b : Bool)
  | oxygen (b : Bool)
  | labour (b : Bool)
  deriving DecidableEq, Repr

/-- R116: the causes that an event raises and the restore key clears. -/
inductive Latch where
  | thermal | rotorStall | custody | link
  deriving DecidableEq, Repr

/-- One event at one owner. -/
inductive Notice where
  /-- Evaluator: a reporter tells of a fact (R115). -/
  | fact (f : Fact)
  /-- Evaluator: take the facts present (R117, R118, R120, R126). -/
  | reassess
  /-- Evaluator: a raising event (R116). -/
  | raise (l : Latch)
  /-- Evaluator: a zone entered CONFIRMED by this point (R116, R122). -/
  | zoneConfirmed (z : ZoneId) (p : PointId)
  /-- Evaluator: a zone left CONFIRMED (R116). -/
  | zoneCleared (z : ZoneId)
  /-- Channels: a change of line hazard or LINE_STOP (R59, R121). -/
  | channelsHazard
  /-- Channels: a zone of theirs confirmed (R63). -/
  | channelsFire (z : ZoneId)
  /-- Channels: an entry is WAITING or a channel EMPTY (R52). -/
  | assign
  /-- Hand-off, upstream side: a change of line hazard (R29, R42). -/
  | handoffHazard
  /-- Hand-off, upstream side: an event of R29 that leads to a candidate search. -/
  | search
  /-- Hand-off, upstream side: the station went silent, or restarted (R44). -/
  | downstreamLost (station : Nat) (restarted : Bool)
  /-- Hand-off, upstream side: a STATUS, an ALARM or a change of freshness of the station (R29, R158). -/
  | peerNews (station : Nat)
  /-- Scanner: a change of a zone's state or of the line hazard (R94, R96). -/
  | scannerLook
  /-- Scanner: the round moves on to the points from this number on (R93). -/
  | roundFrom (n : Nat)
  /-- Scanner: the round is held at its point after an abort's release part (R96). -/
  | roundAgain
  /-- Zone logic: a point's reported state changed (R109). -/
  | zonePoint (p : PointId) (st : PointReport)
  /-- Zone logic: the restore key (R110). -/
  | zoneRestore
  /-- Atmosphere controller: a zone entered CONFIRMED (R134). -/
  | chamberConfirmed (z : ZoneId)
  /-- Atmosphere controller: a zone left CONFIRMED (R135). -/
  | chamberCleared (z : ZoneId)
  /-- Atmosphere controller: the restore key (R135). -/
  | chamberRestore
  /-- Atmosphere controller: work out the chamber oxygen (R129). -/
  | oxygen
  /-- Rotor monitor: look at the conditions of RUN (R138). -/
  | rotorLook
  /-- Feed monitor: look at the feed conditions (R142, R145). -/
  | feedLook
  deriving DecidableEq, Repr

/-- The scanner's looks come after every report in flight, so that a report of a point's state is taken before the
scanner changes that state again (log 4). -/
def Notice.later : Notice → Bool
  | .scannerLook | .roundFrom _ | .roundAgain => true
  | .fact _ | .reassess | .raise _ | .zoneConfirmed .. | .zoneCleared _ | .channelsHazard | .channelsFire _ | .assign
  | .handoffHazard | .search | .downstreamLost .. | .peerNews _ | .zonePoint .. | .zoneRestore | .chamberConfirmed _
  | .chamberCleared _ | .chamberRestore | .oxygen | .rotorLook | .feedLook => false

/-- A state, and what its owners have yet to be told. -/
abbrev Fx := State × List Notice

/-- A change that tells nobody. -/
def quiet (s : State) : Fx := (s, [])

/-- One operation after another, the hand-ons of both in order. -/
def Fx.andThen (r : Fx) (f : State → Fx) : Fx := ((f r.1).1, r.2 ++ (f r.1).2)

/-- A change without hand-ons after an operation. -/
def Fx.after (r : Fx) (f : State → State) : Fx := (f r.1, r.2)

/-- A hand-on after those an operation made. -/
def Fx.tell (r : Fx) (ns : List Notice) : Fx := (r.1, r.2 ++ ns)

/-- An operation for each element in order. -/
def forEach {α : Type} (f : α → State → Fx) : List α → State → Fx
  | [], s => quiet s
  | x :: xs, s => (f x s).andThen (forEach f xs)

end Sys2Proof.Machine
end

