-- ==== Sys2Proof/Machine/Ops.lean ====
section
/-! DEFINITION. The named operations the blocks share: pack entries and their tokens (chapter 1), the transmit and
receive queues (R168–R170). -/
namespace Sys2Proof.Machine

/-! ## Tokens and entries -/

/-- R7: the tokens of the list and of the open expectation. -/
def heldTokens (s : State) : List Token :=
  s.custody.list.map (·.pack.token) ++ (match s.handoff.expect with | some e => [e.pack.token] | none => [])

/-- R5, R6: a serial is held by an entry or by the open expectation, whatever the origin of the token it stands in. -/
def serialHeld (s : State) (n : Nat) : Bool := (heldTokens s).any (·.serial == n)

/-- The first number from `n` on, counted by `succ`, that `taken` does not hold; the search looks at `fuel` candidates
before it gives the next one unlooked-at. -/
def firstFree (succ : Nat → Nat) (taken : Nat → Bool) : Nat → Nat → Nat
  | 0, n => n
  | fuel + 1, n => if taken n then firstFree succ taken fuel (succ n) else n

/-- R5: from 8,388,607 the intake serials continue at 1. -/
def nextIntake (n : Nat) : Nat := if n ≥ 8388607 then 1 else n + 1

/-- R6: from 8,388,607 the orphan sequence continues at 0. -/
def nextOrphan (n : Nat) : Nat := if n ≥ 8388607 then 0 else n + 1

/-- R5: the serial of a new intake entry ("the search ends within 17 candidates"). -/
def allocIntake (s : State) : Nat :=
  firstFree nextIntake (serialHeld s) 17 s.custody.nextSerial

/-- R6: the sequence value of a new orphan. -/
def allocOrphan (s : State) : Nat :=
  firstFree nextOrphan (fun n => serialHeld s (8388608 + n)) 17 s.custody.orphanSeq

/-- The entry with a token. -/
def findEntry (s : State) (t : Token) : Option Entry := s.custody.list.find? (·.pack.token == t)

/-- R2: "the oldest entry in state X": the first in list order that satisfies `q`. -/
def oldest (s : State) (q : Entry → Bool) : Option Entry := s.custody.list.find? q

/-- Every entry with the token changed by `f`; R7 makes it one at most. -/
def changeEntry (t : Token) (f : Entry → Entry) (s : State) : State :=
  s.onCustody fun c => { c with list := c.list.map fun e => if e.pack.token = t then f e else e }

/-- R15: a request is applied when the entry named by token is in the list and in the presumed state. -/
def requestApplies (s : State) (t : Token) (presumed : EntryState) : Bool :=
  match findEntry s t with
  | some e => e.state == presumed
  | none => false

/-- R15: a state change request of Table 11; OFFERED and FEEDING are not given while another entry holds them. -/
def requestState (t : Token) (presumed new : EntryState) (f : Entry → Entry) (s : State) : State :=
  if requestApplies s t presumed
      ∧ ¬ ((new = .offered ∨ new = .feeding) ∧ (oldest s fun e => e.state == new).isSome)
  then changeEntry t (fun e => { f e with state := new }) s
  else s

/-- R2: a new entry is appended at the tail. -/
def appendEntry (e : Entry) (s : State) : State := s.onCustody fun c => { c with list := c.list ++ [e] }

/-- R2: removing an entry closes the gap, the others keeping their order. -/
def removeEntry (t : Token) (s : State) : State :=
  s.onCustody fun c => { c with list := c.list.filter fun e => e.pack.token != t }

/-- A custody count changed. -/
def countCustody (f : CustodyCounts → CustodyCounts) (s : State) : State :=
  s.onCustody fun c => { c with counts := f c.counts }

/-- R9: entries plus the open expectation. -/
def occupancy (s : State) : Nat := s.custody.list.length + s.handoff.expect.isSome.toNat

/-- R9: the station is full. -/
def stationFull (s : State) : Bool := 16 ≤ occupancy s

/-- R9: 16 less the entries, less 1 while an expectation is open. -/
def freeCount (s : State) : Nat := 16 - occupancy s

/-- R9: EMPTY channels less WAITING entries, 0 where negative. -/
def freeChannels (s : State) : Nat :=
  (s.channels.toList.filter (·.state == .empty)).length
    - (s.custody.list.filter (·.state == .waiting)).length

/-- R9: the free capacity a STATUS reports. -/
def freeCapacity (s : State) : Nat :=
  if s.handoff.expect.isSome then 0
  else if s.cfg.role = .discharge then min (freeCount s) (freeChannels s)
  else freeCount s

/-- R20: an entry is eligible for feed: a summary with verdict DISCHARGED, no damaged flag. -/
def eligible (p : PackRecord) : Bool :=
  !p.damaged && (match p.summary with | some m => m.verdict == .discharged | none => false)

/-- R17: how an entry takes an offered mark. -/
def takeMark (m : Mark) (p : PackRecord) : PackRecord :=
  if p.marks.contains m then p
  else if p.marks.length < 4 then { p with marks := p.marks ++ [m] }
  else { p with overflow := true }

/-- R17: the mark is offered to every entry of the list, in any state. -/
def markEntries (c : Cause) (s : State) : State :=
  s.onCustody fun cu =>
    { cu with list := cu.list.map fun e => { e with pack := takeMark ⟨c, s.loader.own⟩ e.pack } }

/-! ## The transmit queue -/

/-- A link count changed. -/
def countLink (f : LinkCounts → LinkCounts) (s : State) : State :=
  s.onLink fun l => { l with counts := f l.counts }

/-- R169, ALARM: at the tail; with both slots full the oldest not in transmission is lost. -/
def queueAlarm (p : Payload) (s : State) : State :=
  let slot : Slot := ⟨⟨s.loader.own, 0, p⟩, 0⟩
  if s.link.alarms.length < 2 then s.onLink fun l => { l with alarms := l.alarms ++ [slot] }
  else
    countLink (fun c => { c with displaced := c.displaced.bump })
      (s.onLink fun l =>
        { l with alarms := (if l.sending = some .alarm then l.alarms.eraseIdx 1 else l.alarms.eraseIdx 0) ++ [slot] })

/-- R169, custody: at the tail; with all 4 slots full it is dropped, with a link error and a LINK_FAULT raising
event in RUN. -/
def queueCustody (dest : Nat) (p : Payload) (s : State) : Fx :=
  if s.link.custody.length < 4 then
    quiet (s.onLink fun l => { l with custody := l.custody ++ [⟨⟨s.loader.own, dest, p⟩, 0⟩] })
  else
    (flagLinkError (countLink (fun c => { c with custodyDrops := c.custodyDrops.bump }) s), [.raise .link])

/-- The STATUS fields of a slot, where it holds a STATUS. -/
def Slot.fields (sl : Slot) : Option StatusFields :=
  match sl.tg.payload with
  | .status f => some f
  | _ => none

/-- R170, replacement: the new STATUS with the old one's sequence number and attempt count, the flags ORed, and
fresh-start when either carried it. -/
def replaceStatus (old new : Slot) : Slot :=
  match Slot.fields old, Slot.fields new with
  | some o, some n =>
    let f : StatusFields :=
      { n with seq := o.seq, flags := IntervalFlags.or o.flags n.flags, fresh := o.fresh || n.fresh }
    ⟨⟨new.tg.origin, new.tg.dest, .status f⟩, old.attempts⟩
  | _, _ => new

/-- R170: a STATUS entering the empty slot takes the next sequence number. -/
def enterStatus (new : Slot) (l : Link) : Link :=
  match Slot.fields new with
  | some f =>
    { l with status := some ⟨⟨new.tg.origin, new.tg.dest, .status { f with seq := l.nextSeq }⟩, 0⟩,
             nextSeq := (l.nextSeq + 1) % 256 }
  | none => l

/-- R170: a new STATUS from the station status timer. -/
def queueStatus (f : StatusFields) (s : State) : State :=
  let new : Slot := ⟨⟨s.loader.own, 0, .status f⟩, 0⟩
  let replaced (l : Link) : LinkCounts := { l.counts with replacements := l.counts.replacements.bump }
  s.onLink fun l =>
    match l.status with
    | none => enterStatus new l
    | some old =>
      if l.sending ≠ some .status then
        { l with status := some (replaceStatus old new), counts := replaced l }
      else
        match l.heldStatus with
        | none => { l with heldStatus := some new }
        | some h => { l with heldStatus := some (replaceStatus h new), counts := replaced l }

/-- R170: the attempt on the STATUS in the slot ended and the slot is empty: a held STATUS enters it. -/
def placeHeldAfterEmpty (l : Link) : Link :=
  match l.heldStatus with
  | some h => enterStatus h { l with heldStatus := none, status := none }
  | none => l

/-- R170: the attempt ended and the STATUS remains in the slot: a held STATUS replaces it. -/
def placeHeldAfterKeep (l : Link) : Link :=
  match l.status, l.heldStatus with
  | some o, some h =>
    { l with status := some (replaceStatus o h), heldStatus := none,
             counts := { l.counts with replacements := l.counts.replacements.bump } }
  | _, _ => l

/-- R164: the head of a class. -/
def classHead (l : Link) : TxClass → Option Slot
  | .alarm => l.alarms.head?
  | .custody => l.custody.head?
  | .status => l.status
  | .report => l.report

/-- R164: the lowest class that has a telegram queued. -/
def lowestClass (l : Link) : Option TxClass :=
  if !l.alarms.isEmpty then some .alarm
  else if !l.custody.isEmpty then some .custody
  else if l.status.isSome then some .status
  else if l.report.isSome then some .report
  else none

/-- The head of a class changed in place (its attempt count, R166). -/
def changeHead (f : Slot → Slot) (l : Link) : TxClass → Link
  | .alarm => { l with alarms := l.alarms.modifyHead f }
  | .custody => { l with custody := l.custody.modifyHead f }
  | .status => { l with status := l.status.map f }
  | .report => { l with report := l.report.map f }

/-- A telegram leaves its slot (R164, R166); a held STATUS takes an emptied STATUS slot (R170). -/
def popHead (l : Link) : TxClass → Link
  | .alarm => { l with alarms := l.alarms.tail }
  | .custody => { l with custody := l.custody.tail }
  | .status => placeHeldAfterEmpty { l with status := none }
  | .report => { l with report := none }

/-- The attempt in progress ends with its telegram at the head of its class (R165, R166, R172); a held STATUS
replaces the STATUS that was in transmission (R170). -/
def endAttempt (l : Link) : Link :=
  let l' := if l.sending = some .status then placeHeldAfterKeep l else l
  { l' with sending := none, ltx := .recessive }

/-! ## The receive queue -/

/-- R168: a telegram at the tail, or overrun with a link error. -/
def enqueueRx (t : Telegram) (s : State) : State :=
  if s.link.rx.length < 4 then
    countLink (fun c => { c with received := c.received.bump }) (s.onLink fun l => { l with rx := l.rx ++ [t] })
  else
    flagLinkError (countLink (fun c => { c with overruns := c.overruns.bump }) s)

/-- R168: taking the oldest telegram frees its place. -/
def dropRx (s : State) : State := s.onLink fun l => { l with rx := l.rx.tail }

/-- R149: a peer-view delivery: the origin is the station's own number or 0. -/
def badOrigin (s : State) (t : Telegram) : Bool := t.origin == s.loader.own || t.origin == 0

/-- R168: the oldest telegram, unless it is a delivery of R149. -/
def oldestTelegram (s : State) : Option Telegram :=
  match s.link.rx with
  | t :: _ => if badOrigin s t then none else some t
  | [] => none

/-- R25, R31: the custody telegram the hand-off controller acts on: in RUN, not addressed to station 0. -/
def custodyTelegramActs (s : State) (t : Telegram) : Bool := s.loader.phase == .run && t.dest != 0

end Sys2Proof.Machine
end

