-- ==== Sys2Proof/Machine/Evaluator.lean ====
section
/-! DEFINITION. The hazard evaluator's operations (chapter 7): the conditions of the causes, activations and what they
send, the two hazards and their readers. -/
namespace Sys2Proof.Machine

/-- The cause with code `i + 1`. -/
def causeAt (i : Fin 14) : Cause := allCauses[i.val]'(by simp [allCauses])

/-- Table 24, "active while". -/
def condition (s : State) : Cause → Bool
  | .pointWarn => s.hazard.facts.points.toList.any (· == some .warn)
  | .pointAlarm => s.hazard.facts.points.toList.any (· == some .alarm)
  | .zoneConfirmed => s.hazard.zoneLatch.toList.any id
  | .pointFault => s.hazard.facts.points.toList.any (· == some .fault) || s.hazard.facts.zoneFault.toList.any id
  | .o2High => s.hazard.facts.oxygen
  | .thermal => s.hazard.causes[Cause.index .thermal].latch
  | .channelFault => s.hazard.facts.channel.toList.any id
  | .rotorStall => s.hazard.causes[Cause.index .rotorStall].latch
  | .rotorLabour => s.hazard.facts.labour
  | .peerHazard => s.peers.level != .off
  | .peerSilent => s.peers.silent
  | .lineStop => s.hazard.stopHold.isSome
  | .custodyDiscrepancy => s.hazard.causes[Cause.index .custodyDiscrepancy].latch
  | .linkFault => s.hazard.causes[Cause.index .linkFault].latch

/-- A cause is active. -/
def causeActive (s : State) (c : Cause) : Bool := s.hazard.causes[Cause.index c].active

/-- R114, R127: becoming active is an activation; R118: PEER_HAZARD takes the reported peer level. ZONE_CONFIRMED
counts its activations by zone latch (`latchZone`). -/
def stepCause (s : State) (c : Cause) (r : CauseRecord) : CauseRecord :=
  let r := if c = .peerHazard then { r with level := s.peers.level } else r
  if condition s c && !r.active && c != .zoneConfirmed then
    { r with active := true, activations := r.activations.bump, last := some s.clock }
  else { r with active := condition s c }

/-- R122, R126: zone and point of the ALARM of a cause drawn from points and zones: the lowest-numbered point that
holds the condition with its zone, else the lowest-numbered zone in FAULT with point 0; (0, 0) for other causes. A
cause becomes active by its first holder, so outside RUN entry this is the point or zone whose change did it. -/
def alarmPlace (s : State) (c : Cause) : Nat × Nat :=
  let holder (st : PointReport) : Option PointId :=
    (List.finRange 12).find? fun p => s.hazard.facts.points[p] == some st
  let place (o : Option PointId) : Nat × Nat :=
    match o with
    | some p => (s.cfg.points[p].zone, p.val + 1)
    | none => (0, 0)
  match c with
  | .pointWarn => place (holder .warn)
  | .pointAlarm => place (holder .alarm)
  | .pointFault =>
    match holder .fault with
    | some p => place (some p)
    | none =>
      match (List.finRange 4).find? fun z => s.hazard.facts.zoneFault[z] with
      | some z => (z.val + 1, 0)
      | none => (0, 0)
  | _ => (0, 0)

/-- R122: the activation of a local cause at NOMINAL or HIGH queues one ALARM with the station hazard as it stands, and
offers the mark to every entry (R17). -/
def announce (c : Cause) (place : Nat × Nat) (s : State) : State :=
  let s := queueAlarm (.alarm c place.1 place.2 s.hazard.causes[Cause.index c].level s.hazard.station) s
  let s := s.onHazard fun h => { h with alarmsQueued := h.alarmsQueued.bump }
  markEntries c s

/-- R122: the causes whose activation is announced. -/
def announces (r : CauseRecord) (c : Cause) : Bool := Cause.isLocal c && 2 ≤ Level.rank r.level

/-- R120, R125: both hazards and the two outputs worked out afresh from the cause records. -/
def setHazards (causes : Vector CauseRecord 14) (s : State) : State :=
  s.onHazard fun h =>
    { h with causes := causes, station := stationHazard causes, line := lineHazard causes,
             safe := safeOutput s.loader.phase (lineHazard causes), alert := alertOutput (lineHazard causes) }

/-- Table 25: the owners that a change of the line hazard is handed to. -/
def hazardReaders : List Notice := [.channelsHazard, .handoffHazard, .scannerLook, .rotorLook, .feedLook]

/-- R120–R122: the evaluator takes the facts present: active flags, hazards, outputs, announcements, and the changes
handed on (R121). It acts in RUN (R126). DESIGN CHOICE (log 28): causes that become active together announce in code
order. -/
def reassess (s : State) : Fx :=
  if ¬ s.running then quiet s
  else
    let old := s.hazard
    let causes := tabulate fun i => stepCause s (causeAt i) old.causes[i]
    let s1 := setHazards causes s
    let fresh := allCauses.filter fun c =>
      c != .zoneConfirmed && !old.causes[Cause.index c].active && causes[Cause.index c].active
        && announces causes[Cause.index c] c
    let s2 := fresh.foldl (fun s c => announce c (alarmPlace s c) s) s1
    (s2,
      (if s2.hazard.line ≠ old.line then hazardReaders
       else if causes[Cause.index .lineStop].active ≠ old.causes[Cause.index .lineStop].active then [.channelsHazard]
       else [])
      ++ (if causes[Cause.index .rotorStall].active ≠ old.causes[Cause.index .rotorStall].active then [.rotorLook]
          else []))

/-- R115: the evaluator keeps a fact as reported. -/
def keepFact (f : Fact) (k : Facts) : Facts :=
  match f with
  | .point p st => { k with points := k.points.set p (some st) }
  | .zoneFault z b => { k with zoneFault := k.zoneFault.set z b }
  | .channel c b => { k with channel := k.channel.set c b }
  | .oxygen b => { k with oxygen := b }
  | .labour b => { k with labour := b }

/-- R115: a reporter tells of a fact; taken from RUN entry on (R126). -/
def takeFact (f : Fact) (s : State) : Fx :=
  if s.running then reassess (s.onHazard fun h => { h with facts := keepFact f h.facts }) else quiet s

/-- R116: the cause of a latch. -/
def Latch.cause : Latch → Cause
  | .thermal => .thermal
  | .rotorStall => .rotorStall
  | .custody => .custodyDiscrepancy
  | .link => .linkFault

/-- A latch set or cleared. -/
def setLatch (c : Cause) (b : Bool) (s : State) : State :=
  s.onHazard fun h => { h with causes := modifyAt h.causes (Cause.index c) fun r => { r with latch := b } }

/-- R116, R124: a raising event; "discrepancy seen" is set whether or not the latch was already set. -/
def raiseLatch (l : Latch) (s : State) : Fx :=
  if s.running then reassess (setLatch (Latch.cause l) true (if l = .custody then flagDiscrepancy s else s)) else quiet s

/-- R172: the stop burst is requested: an attempt in progress is aborted, a frame being followed discarded, LTX driven
dominant for 24 bit times from this request. -/
def requestBurst (s : State) : State :=
  if s.link.on ∧ s.link.state ≠ .unjoined then
    countLink (fun c => { c with burstsEmitted := c.burstsEmitted.bump })
      (s.onLink fun l =>
        { endAttempt l with state := .emitting, ltx := .dominant, burstLeft := 24, recessive := 0, dominant := 0,
                            lossAt := none })
  else s

/-- R116, R122: a zone's entry to CONFIRMED sets its latch, an activation of its own, with its ALARM, mark and stop
burst; the confirmation goes to the channels of the zone. DESIGN CHOICE (log 35): the ALARM is queued before the burst
ends the attempt in progress. -/
def latchZone (z : ZoneId) (p : PointId) (s : State) : Fx :=
  if s.running then
    let s := s.onHazard fun h =>
      { h with zoneLatch := h.zoneLatch.set z true,
               causes := modifyAt h.causes (Cause.index .zoneConfirmed) fun r =>
                 { r with activations := r.activations.bump, last := some s.clock } }
    let r := reassess s
    (requestBurst (announce .zoneConfirmed (z.val + 1, p.val + 1) r.1), .channelsFire z :: r.2)
  else quiet s

/-- R116: zone logic hands back the zone's leaving of CONFIRMED. -/
def unlatchZone (z : ZoneId) (s : State) : Fx :=
  if s.running then reassess (s.onHazard fun h => { h with zoneLatch := h.zoneLatch.set z false }) else quiet s

/-- R117: a stop burst reported starts or restarts the stop hold timer; before RUN it is not taken (R126). -/
def takeStopReport (s : State) : Fx :=
  if s.running then reassess (s.onHazard fun h => { h with stopHold := some s.cfg.stopHoldMs }) else quiet s

end Sys2Proof.Machine
end

