-- ==== Sys2Proof/Machine/TallyOps.lean ====
section
/-! DEFINITION. The tally log's operations (chapter 11): building and appending a record, the watermark, TURN; and the
terminal removals of the custody block that feed it (R19–R22). -/
namespace Sys2Proof.Machine

/-- R177: the other bank. -/
def BankName.other : BankName → BankName
  | .a => .b
  | .b => .a

/-- The records of a bank. -/
def Tally.bank (t : Tally) : BankName → List TallyRecord
  | .a => t.bankA
  | .b => t.bankB

/-- A bank's records replaced. -/
def Tally.setBank (t : Tally) (n : BankName) (rs : List TallyRecord) : Tally :=
  match n with
  | .a => { t with bankA := rs }
  | .b => { t with bankB := rs }

/-- R177: the held bank's name. -/
def Tally.heldName (t : Tally) : BankName := BankName.other t.filling

/-- R177: the bank that takes new records. -/
def Tally.fillingBank (t : Tally) : List TallyRecord := Tally.bank t t.filling

/-- R177: the bank open to reading. -/
def Tally.heldBank (t : Tally) : List TallyRecord := Tally.bank t (Tally.heldName t)

/-- R178: the watermark test. -/
def testWatermark (s : State) : State :=
  s.onTally fun t => if s.cfg.watermark ≤ (Tally.fillingBank t).length then { t with due := true } else t

/-- R177: a record is appended to the filling bank, the watermark test following, or dropped when 32 are there. -/
def appendRecord (r : TallyRecord) (s : State) : State :=
  if (Tally.fillingBank s.tally).length < 32 then
    testWatermark (s.onTally fun t =>
      { Tally.setBank t t.filling (Tally.fillingBank t ++ [r]) with appended := t.appended + 1 })
  else s.onTally fun t => { t with dropped := t.dropped + 1 }

/-- R22, R176: the record of a terminal removal; dwell is outcome time less entry time modulo 2^32, in whole s. -/
def tallyRecord (p : PackRecord) (entered : Clock) (outcome : Removal) (peak : Option Nat) (s : State) :
    TallyRecord :=
  { token := p.token, cls := p.cls, damaged := p.damaged, outcome,
    verdict := p.summary.map (·.verdict), energy := (match p.summary with | some m => m.energy | none => 0),
    hops := p.hops, marks := p.marks.length, overflow := p.overflow, peak, time := s.clock,
    dwell := (s.clock - entered).toNat / 1000 }

/-- R179: TURN empties the held bank, exchanges the roles, clears TALLY_DUE. -/
def turnBanks (s : State) : State :=
  s.onTally fun t =>
    { Tally.setBank t (Tally.heldName t) [] with
      filling := Tally.heldName t, due := false, turns := t.turns + 1,
      discarded := t.discarded + BitVec.ofNat 32 (Tally.heldBank t).length }

/-- R41, R46: an entry that leaves with a re-offer of it outstanding clears the offer and stops the reply timer. -/
def clearOfferOf (t : Token) (s : State) : State :=
  s.onHandoff fun h =>
    match h.offer with
    | some o => if o.token = t then { h with offer := none, reply := none } else h
    | none => h

/-- R29, R142: an entry left the list. -/
def entryLeft : List Notice := [.search, .feedLook]

/-- R19, R46: an entry is lost: removed, its timers gone with it, the lost count and the LOST record, then the
discrepancy. -/
def loseEntry (e : Entry) (s : State) : Fx :=
  let s := clearOfferOf e.pack.token (removeEntry e.pack.token s)
  let s := countCustody (fun c => { c with lost := c.lost.bump }) s
  (appendRecord (tallyRecord e.pack e.entered .lost none s) s, .raise .custody :: entryLeft)

end Sys2Proof.Machine
end

