-- ==== Sys2Proof/Machine/Arithmetic.lean ====
section
/-! DEFINITION. Channel arithmetic (chapter 4): power limit, full-duty power, duty, accumulation, extremes, rest
voltage, conversion to summary units. Exact integers, each division truncating. -/
namespace Sys2Proof.Machine

/-- R70: the power limit in mW before damage halving. -/
def powerLimit (pMax : Nat) (tKnee tCut t : Int) : Nat :=
  if t ≤ tKnee then pMax * 1000
  else if t < tCut then pMax * 1000 * (tCut - t).toNat / (tCut - tKnee).toNat
  else 0

/-- R71: halved with truncation for a damaged pack. -/
def damagedLimit (damaged : Bool) (limit : Nat) : Nat := if damaged then limit / 2 else limit

/-- R72: the full-duty power in mW; the voltage in mV is the code times 20. -/
def fullPower (volts rLoad : Nat) : Nat := (volts * 20) * (volts * 20) / rLoad

/-- R73: the duty in units of 1/1,024. -/
def dutyOf (limit full dMin : Nat) : Nat :=
  let d := if full ≤ limit then 1024 else 1024 * limit / full
  if d < dMin then 0 else d

/-- R74, R75: a value held between −bound and +bound. -/
def saturate (bound x : Int) : Int := max (-bound) (min bound x)

/-- R74: the end of the charge accumulator. -/
def chargeBound : Int := 2 ^ 47 - 1

/-- R75: the end of the energy accumulator. -/
def energyBound : Int := 2 ^ 55 - 1

/-- R69: a voltage code of 65,535 or a current code at either end is a clipped reading. -/
def clippedReading (volts : Nat) (current : Int) : Bool :=
  volts == 65535 || current == -32768 || current == 32767

/-- R51: the readings stored as the latest; the duty in force over the interval that ends is the duty driven (R54). -/
def storeReadings (volts : Nat) (current temp : Int) (c : Channel) : Channel :=
  { c with volts := volts, current := current, temp := temp, sampled := true, duty := c.load }

/-- R68, steps 1 and 2: clipped readings noted, charge and energy added (R74, R75), extremes updated (R76). The
channel's latest readings are the sample's. -/
def accumulate (tm : Nat) (c : Channel) : Channel :=
  let q := c.charge + c.current * tm
  let e := c.energy + (c.volts : Int) * c.current * tm
  { c with
    charge := saturate chargeBound q, energy := saturate energyBound e,
    clipped := c.clipped || clippedReading c.volts c.current
      || saturate chargeBound q != q || saturate energyBound e != e,
    peak := if tempOk c.temp ∧ c.peak < c.temp then c.temp else c.peak,
    minVolts := if 0 < c.duty ∧ c.volts < c.minVolts then c.volts else c.minVolts }

/-- R55, R56: the end count and the no-response time of a sample in DISCHARGE. -/
def countSample (cfg : Config) (c : Channel) : Channel :=
  { c with
    endCount := if 0 < c.duty ∧ c.volts ≤ cfg.vEnd then min 255 (c.endCount + 1) else 0,
    noResp := if 0 < c.duty ∧ c.current < cfg.iMin then min cfg.noRespMs (c.noResp + cfg.tm) else 0 }

/-- R77: the code is added to the window; of 8 held the oldest goes first. -/
def pushWindow (c : Channel) : Channel :=
  { c with window := (c.window ++ [c.volts]).drop (c.window.length + 1 - 8) }

/-- R77: the rest voltage, the sum of the codes held divided by their number, truncated. With no code held the spec
states no result: a free value (log 10). -/
def restVoltage (clock : Clock) (window : List Nat) : Nat :=
  if window.isEmpty then min 65535 (Config.restVoltageOfNoSample clock.toNat)
  else window.sum / window.length

/-- R78: an accumulator in summary units, 0 for a negative one, clamped to 32 bits. -/
def toSummaryUnits (unit : Nat) (x : Int) : Nat := min 4294967295 (x.toNat / unit)

/-- R78: energy removed in 0.01 Wh. -/
def energyRemoved (c : Channel) : Nat := toSummaryUnits 180000000 c.energy

/-- R78: charge removed in mAh. -/
def chargeRemoved (c : Channel) : Nat := toSummaryUnits 360000 c.charge

end Sys2Proof.Machine
end

