-- ==== Sys2Proof/Machine/ChannelOps.lean ====
section
/-! DEFINITION. The discharge channels' operations (chapter 3): assignment, connect check, holds, samples, verdict,
release. Channels act at a DISCHARGE station in RUN. -/
namespace Sys2Proof.Machine

/-- The channels A to D. -/
def allChannels : List ChannelId := [0, 1, 2, 3]

/-- Channels act at a DISCHARGE station in start phase RUN (chapter 3). -/
abbrev channelsAct (s : State) : Prop := s.running ∧ s.cfg.role = .discharge

/-- A channel's record changed. -/
def changeChannel (c : ChannelId) (f : Channel → Channel) (s : State) : State :=
  s.onChannels fun cs => modifyAt cs c f

/-- R58: DISCHARGE, HELD or REST. -/
def ChannelState.working : ChannelState → Bool
  | .discharge | .held | .rest => true
  | .empty | .connecting | .done => false

/-- R58, R115: the channel tells the evaluator whether its latest reading is out of range while it works. -/
def channelFact (c : ChannelId) (s : State) : Notice :=
  .fact (.channel c (ChannelState.working s.channels[c].state && !tempOk s.channels[c].temp))

/-- R59: LINE_STOP is active. -/
def floodPresent (s : State) : Bool := causeActive s .lineStop

/-- R59: the line hazard is HOLD or STOP. -/
def hazardPresent (s : State) : Bool := Hazard.atHold s.hazard.line

/-- R59: any hold condition is present. -/
def Channel.anyHold (c : Channel) : Bool := c.holdSensor || c.holdFlood || c.holdHazard

/-- R59: the entry to DISCHARGE: counts at 0, duty in force 0; HELD at once when FLOOD or HAZARD is present. -/
def enterDischarge (flood hazard : Bool) (c : Channel) : Channel :=
  { c with
    state := if flood || hazard then .held else .discharge,
    holdSensor := false, holdFlood := flood, holdHazard := hazard,
    endCount := 0, noResp := 0, load := 0, duty := 0 }

/-- R59: the channel is HELD, LOADx at 0. -/
def enterHeld (c : Channel) : Channel := { c with state := .held, load := 0 }

/-- R59: a change of line hazard or LINE_STOP at a channel in DISCHARGE or HELD. -/
def updateHolds (flood hazard : Bool) (c : Channel) : Channel :=
  let c' := { c with holdFlood := flood, holdHazard := hazard }
  match c.state with
  | .discharge => if Channel.anyHold c' then enterHeld c' else c'
  | .held => if Channel.anyHold c' then c' else enterDischarge flood hazard c'
  | _ => c

/-- R65: a DONE channel releases its entry to READY and becomes EMPTY, then is free for assignment. -/
def releaseChannel (c : ChannelId) (s : State) : Fx :=
  let s := match s.channels[c].token with
    | some t => requestState t .inChannel .ready (fun e => { e with channel := none }) s
    | none => s
  (changeChannel c (fun ch => { ch with state := .empty, token := none, verdict := none }) s, [.assign, .search])

/-- R66: a channel's verdict count rises. -/
def bumpVerdict (v : Verdict) (k : ChannelCounts) : ChannelCounts :=
  match v with
  | .discharged => { k with discharged := k.discharged.bump }
  | .openCircuit => { k with openCircuit := k.openCircuit.bump }
  | .thermal => { k with thermal := k.thermal.bump }
  | .expired => { k with expired := k.expired.bump }
  | .stubborn => { k with stubborn := k.stubborn.bump }
  | .aborted => { k with aborted := k.aborted.bump }
  | .fire => { k with fire := k.fire.bump }

/-- R64, step 2: the summary built from the channel's record. -/
def buildSummary (v : Verdict) (own : Nat) (c : Channel) : Summary :=
  { verdict := v, energy := energyRemoved c, charge := chargeRemoved c, restVolts := c.lastRest,
    rebounds := c.rebounds, peak := c.peak, station := own, clipped := c.clipped, netIn := c.netIn }

/-- R64, steps 1, 2 and 4 at the channel: load off, timers stopped, NET_IN by R78, verdict and its count. DESIGN CHOICE
(log 29): the hold conditions, which only DISCHARGE and HELD keep (R59), are cleared. -/
def closeRecord (v : Verdict) (c : Channel) : Channel :=
  { c with
    state := .done, load := 0, rest := none, verdict := some v,
    holdSensor := false, holdFlood := false, holdHazard := false,
    netIn := c.netIn || c.energy < 0 || c.charge < 0,
    counts := bumpVerdict v c.counts }

/-- R16: the summary is written into the entry that is IN_CHANNEL on this channel, and its energy added to the
lifetime energy total; otherwise nothing. -/
def writeSummary (c : ChannelId) (t : Token) (m : Summary) (s : State) : State :=
  match findEntry s t with
  | some e =>
    if e.state = .inChannel ∧ e.channel = some c then
      (changeEntry t (fun e => { e with pack := { e.pack with summary := some m } }) s).onCustody fun cu =>
        { cu with energy := cu.energy + BitVec.ofNat 48 m.energy }
    else s
  | none => s

/-- R64: the record closed with the verdict, and the summary in the entry the channel holds (R16). -/
def recordVerdict (c : ChannelId) (v : Verdict) (s : State) : State :=
  let s := changeChannel c (closeRecord v) s
  match s.channels[c].token with
  | some t => writeSummary c t (buildSummary v s.loader.own s.channels[c]) s
  | none => s

/-- R57: the thermal verdict is a raising event of cause THERMAL. -/
def verdictRaises (v : Verdict) : List Notice := if v = .thermal then [.raise .thermal] else []

/-- R64: a verdict is set on entering DONE; when CONNx is low the entry is released in the same event (R65). -/
def setVerdict (c : ChannelId) (v : Verdict) (s : State) : Fx :=
  let s := recordVerdict c v s
  let r : Fx := (s, verdictRaises v ++ [channelFact c s])
  if s.pins.conn[c].level then r else r.andThen (releaseChannel c)

/-- R53: the voltage the connect check judges: the latest sample's, or the converter's present reading when no sample
has been taken since RUN entry. DESIGN CHOICE (log 30): the present reading is the one that the last CONN_RISE of the
channel, or BASELINE_END, brought. -/
def connectVolts (c : ChannelId) (s : State) : Nat :=
  if s.channels[c].sampled then s.channels[c].volts else s.pins.vsns[c]

/-- R53: the connect check of a channel in CONNECTING. -/
def connectCheck (c : ChannelId) (s : State) : Fx :=
  if connectVolts c s < s.cfg.vPresent then setVerdict c .openCircuit s
  else
    let s := changeChannel c (enterDischarge (floodPresent s) (hazardPresent s)) s
    (s, [channelFact c s])

/-- R52, R80: the channel takes a token: its record cleared, CONNECTING. -/
def takeToken (t : Token) (c : Channel) : Channel :=
  { c with
    state := .connecting, token := some t, holdSensor := false, holdFlood := false, holdHazard := false,
    verdict := none, rebounds := 0, endCount := 0, noResp := 0, spent := 0, rest := none, lastRest := 0, load := 0,
    duty := 0, charge := 0, energy := 0, peak := -400, minVolts := 65535, clipped := false, netIn := false,
    window := [] }

/-- R52: one channel, when EMPTY, takes the oldest WAITING entry; with CONN already high the connect check follows. -/
def assignOne (c : ChannelId) (s : State) : Fx :=
  match s.channels[c].state, oldest s (fun e => e.state == .waiting) with
  | .empty, some e =>
    let s := requestState e.pack.token .waiting .inChannel (fun e => { e with channel := some c }) s
    let s := changeChannel c (takeToken e.pack.token) s
    if s.pins.conn[c].level then connectCheck c s else quiet s
  | _, _ => quiet s

/-- R52: assignment, lowest letter first, until no WAITING entry or no EMPTY channel remains. -/
def assignChannels (s : State) : Fx :=
  if channelsAct s then forEach assignOne allChannels s else quiet s

/-- R59: the channels take a change of line hazard or LINE_STOP. -/
def channelsTakeHazard (s : State) : Fx :=
  if channelsAct s then
    quiet (s.onChannels fun cs => tabulate fun c => updateHolds (floodPresent s) (hazardPresent s) cs[c])
  else quiet s

/-- R63: a channel takes the confirmation of its zone. -/
def fireOne (z : ZoneId) (c : ChannelId) (s : State) : Fx :=
  if s.cfg.channels[c].zone = z.val + 1
      ∧ (s.channels[c].state = .connecting ∨ ChannelState.working s.channels[c].state = true) then
    setVerdict c .fire s
  else quiet s

/-- R63: the channels of the confirmed zone end FIRE; a channel with zone 0 takes none. -/
def channelsTakeFire (z : ZoneId) (s : State) : Fx :=
  if channelsAct s then forEach (fireOne z) allChannels s else quiet s

/-- R71: the damaged flag of the entry the channel holds. -/
def heldDamaged (c : ChannelId) (s : State) : Bool :=
  match s.channels[c].token with
  | some t => (findEntry s t).any (·.pack.damaged)
  | none => false

/-- R70–R73: the duty for the next interval, from the latest readings. -/
def nextDuty (c : ChannelId) (s : State) : Nat :=
  let ch := s.channels[c]
  dutyOf (damagedLimit (heldDamaged c s) (powerLimit s.cfg.pMax s.cfg.tKnee s.cfg.tCut ch.temp))
    (fullPower ch.volts s.cfg.channels[c].rLoad) s.cfg.dMin

/-- R61: the entry to REST. -/
def enterRest (restMs : Nat) (c : Channel) : Channel :=
  { c with state := .rest, load := 0, rest := some restMs, window := [] }

/-- R57: in range and at or above T_cut. -/
def tooHot (tCut t : Int) : Bool := tempOk t && tCut ≤ t

/-- R55: the tests of a sample in DISCHARGE, the first that holds acting. -/
def dischargeTests (c : ChannelId) (s : State) : Fx :=
  let ch := s.channels[c]
  if !tempOk ch.temp then quiet (changeChannel c (fun ch => enterHeld { ch with holdSensor := true }) s)
  else if tooHot s.cfg.tCut ch.temp then setVerdict c .thermal s
  else if s.cfg.noRespMs ≤ ch.noResp then setVerdict c .openCircuit s
  else if s.cfg.nEnd ≤ ch.endCount then quiet (changeChannel c (enterRest s.cfg.restMs) s)
  else quiet (changeChannel c (fun ch => { ch with load := nextDuty c s }) s)

/-- R57, R58: the tests of a sample in HELD: heat first, then SENSOR set or cleared. -/
def heldTests (c : ChannelId) (s : State) : Fx :=
  let ch := s.channels[c]
  if tooHot s.cfg.tCut ch.temp then setVerdict c .thermal s
  else
    quiet (changeChannel c (fun ch =>
      let ch := { ch with holdSensor := !tempOk ch.temp }
      if Channel.anyHold ch then ch else enterDischarge (floodPresent s) (hazardPresent s) ch) s)

/-- R57: the test of a sample in REST. -/
def restTests (c : ChannelId) (s : State) : Fx :=
  if tooHot s.cfg.tCut s.channels[c].temp then setVerdict c .thermal s else quiet s

/-- R51, R68: what a channel does with a sample, by its state. -/
def takeSample (c : ChannelId) (volts : Nat) (current temp : Int) (s : State) : Fx :=
  let s := changeChannel c (storeReadings volts current temp) s
  let r : Fx := match s.channels[c].state with
    | .discharge => dischargeTests c (changeChannel c (fun ch => countSample s.cfg (accumulate s.cfg.tm ch)) s)
    | .held => heldTests c (changeChannel c (accumulate s.cfg.tm) s)
    | .rest => restTests c (changeChannel c (fun ch => pushWindow (accumulate s.cfg.tm ch)) s)
    | .empty | .connecting | .done => quiet s
  r.tell [channelFact c r.1]

/-- R61: the rest voltage is taken and judged. -/
def judgeRest (c : ChannelId) (s : State) : Fx :=
  let v := restVoltage s.clock s.channels[c].window
  let s := changeChannel c (fun ch => { ch with lastRest := v, rest := none }) s
  if v ≤ s.cfg.vSafe then setVerdict c .discharged s
  else if s.channels[c].rebounds < s.cfg.rMax then
    let s := changeChannel c (fun ch =>
      enterDischarge (floodPresent s) (hazardPresent s)
        { ch with rebounds := ch.rebounds + 1,
                  counts := { ch.counts with rebounds := ch.counts.rebounds.bump } }) s
    (s, [channelFact c s])
  else setVerdict c .stubborn s

/-- R62: the end of a channel's work at the fall of CONNx. -/
def disconnect (c : ChannelId) (s : State) : Fx :=
  match s.channels[c].state with
  | .discharge | .held | .rest => setVerdict c .aborted s
  | .done => releaseChannel c s
  | .empty | .connecting => quiet s

/-- R57: a channel counts as cool. -/
def Channel.cool (tKnee : Int) (c : Channel) : Bool :=
  match c.state with
  | .empty | .connecting => true
  | .discharge | .held | .rest | .done => tempOk c.temp && c.temp < tKnee

/-- R123: every channel is cool; at another role every channel is EMPTY and so cool. -/
def allCool (s : State) : Bool := s.channels.toList.all (Channel.cool s.cfg.tKnee)

end Sys2Proof.Machine
end

