-- ==== Sys2Proof/Machine/HandoffOps.lean ====
section
/-! DEFINITION. The hand-off controller's operations (chapter 2): routing, the candidate search, offers and their
returns, silence and restart of a downstream, the decision at the downstream side. -/
namespace Sys2Proof.Machine

/-- R26: the verdict or the reason that sends a pack to quarantine. -/
def Reason.routesAway : Reason → Bool
  | .notDischarged | .overVoltage | .packClass | .hops => true
  | .busy | .full | .hazard | .duplicate | .notInert => false

/-- R26: the target of a READY entry, worked out afresh from the entry as it stands. -/
def targetOf (cfg : Config) (e : Entry) : Nat :=
  if e.pack.summary.any (fun m => m.verdict != .discharged) || e.pack.hops == 15 || e.refusal.any Reason.routesAway
  then cfg.quarantine else cfg.primary

/-- The peer entry of a station number 1–31. -/
def peerEntry (s : State) (n : Nat) : Option PeerEntry := if n = 0 then none else s.peers.entries.toList[n - 1]?

/-- R158: the free capacity read, 0 for a peer not in RUN. -/
def PeerEntry.capacity (p : PeerEntry) : Nat := if p.phase = some .run then p.free else 0

/-- R158: FRESH; an unheard entry is SILENT. -/
def PeerEntry.isFresh (p : PeerEntry) : Bool := p.freshness == .fresh

/-- R45: the re-offer check of a target. -/
def reofferCheck (s : State) (t : Nat) : Bool :=
  match peerEntry s t with
  | some p => PeerEntry.isFresh p && 1 ≤ PeerEntry.capacity p
  | none => false

/-- R28: the pre-check of a target, the retry timer and the phase apart. -/
def preCheck (s : State) (t : Nat) : Bool :=
  !Hazard.atHold s.hazard.line &&
  (match peerEntry s t with
   | some p =>
     PeerEntry.isFresh p && 1 ≤ PeerEntry.capacity p && !Hazard.atHold p.hazard
       && (p.role != .shredder || p.atmos == .inert)
   | none => false)

/-- R27: the conditions on a search; R25: the upstream side acts at INTAKE, DISCHARGE and TRANSFER. -/
abbrev maySearch (s : State) : Prop :=
  s.running ∧ Role.offers s.cfg.role = true ∧ s.handoff.offer = none ∧ s.handoff.retry = none

/-- R27, pass 1: the oldest ADRIFT entry with its restart mark whose target passes the re-offer check. -/
def reofferCandidate (s : State) : Option Entry :=
  oldest s fun e => e.state == .adrift && e.restart && reofferCheck s e.target

/-- R27, pass 2: the oldest READY entry whose target is non-zero and passes the pre-check. -/
def offerCandidate (s : State) : Option Entry :=
  oldest s fun e => e.state == .ready && targetOf s.cfg e != 0 && preCheck s (targetOf s.cfg e)

/-- R30, R45: the outstanding offer is recorded and the reply timer started. -/
def recordOffer (t : Token) (target : Nat) (s : State) : State :=
  s.onHandoff fun h => { h with offer := some ⟨t, target⟩, reply := some s.cfg.replyMs }

/-- R30: a READY entry is offered. -/
def makeOffer (e : Entry) (s : State) : Fx :=
  let target := targetOf s.cfg e
  (queueCustody target (.offer e.pack) s).after fun s =>
    recordOffer e.pack.token target (requestState e.pack.token .ready .offered id s)

/-- R45: an ADRIFT entry is re-offered and stays ADRIFT. -/
def makeReoffer (e : Entry) (s : State) : Fx :=
  (queueCustody e.target (.offer e.pack) s).after (recordOffer e.pack.token e.target)

/-- R27: the candidate search, re-offers first. -/
def candidateSearch (s : State) : Fx :=
  if maySearch s then
    match reofferCandidate s with
    | some e => makeReoffer e s
    | none =>
      match offerCandidate s with
      | some e => makeOffer e s
      | none => quiet s
  else quiet s

/-- The outstanding offer cleared, the reply timer stopped. -/
def clearOffer (s : State) : State := s.onHandoff fun h => { h with offer := none, reply := none }

/-- The retry timer starts. -/
def startRetry (s : State) : State := s.onHandoff fun h => { h with retry := some s.cfg.retryMs }

/-- The outstanding offer names an OFFERED entry (and no re-offer). -/
def offersOffered (s : State) (o : Offer) : Bool := requestApplies s o.token .offered

/-- R15: "offer returned". -/
def returnOffered (t : Token) (s : State) : State := requestState t .offered .ready id s

/-- R33, R37, R42: WITHDRAW queued, withdrawals + 1. -/
def queueWithdraw (t : Token) (dest : Nat) (s : State) : Fx :=
  (queueCustody dest (.withdraw t) s).after (countCustody fun c => { c with withdrawals := c.withdrawals.bump })

/-- R33, second case, and R42: the offer is withdrawn, the entry READY, the retry timer started. -/
def withdrawOffer (o : Offer) (s : State) : Fx :=
  (queueWithdraw o.token o.target (clearOffer s)).after fun s => startRetry (returnOffered o.token s)

/-- R29, R42: the upstream side takes a change of line hazard. -/
def handoffTakesHazard (s : State) : Fx :=
  if s.running ∧ Role.offers s.cfg.role = true then
    match s.handoff.offer with
    | some o => if Hazard.atHold s.hazard.line ∧ offersOffered s o = true then withdrawOffer o s else quiet s
    | none => candidateSearch s
  else quiet s

/-- R44: IN_TRANSIT entries toward the station become ADRIFT with the adrift timer at twice the transit time; ADRIFT
ones take the restart mark on a restart. -/
def setAdrift (station : Nat) (restarted : Bool) (adriftMs : Nat) (e : Entry) : Entry :=
  if e.target = station then
    match e.state with
    | .inTransit => { e with state := .adrift, adrift := some adriftMs, restart := restarted }
    | .adrift => { e with restart := e.restart || restarted }
    | _ => e
  else e

/-- R44: an entry toward the station takes the restart mark on a restart. -/
def takesRestartMark (station : Nat) (e : Entry) : Bool :=
  e.target == station && (e.state == .inTransit || e.state == .adrift)

/-- R44: an offer outstanding to the station is returned and the retry timer started. -/
def returnOfferTo (station : Nat) (s : State) : State :=
  match s.handoff.offer with
  | some o => if o.target = station then startRetry (returnOffered o.token (clearOffer s)) else s
  | none => s

/-- R44: the downstream station went silent, or restarted; the setting of a restart mark leads to a search (R29). -/
def takeDownstreamLost (station : Nat) (restarted : Bool) (s : State) : Fx :=
  if s.running ∧ Role.offers s.cfg.role = true then
    let s := returnOfferTo station s
    let marked := restarted && s.custody.list.any (takesRestartMark station)
    (s.onCustody fun c => { c with list := c.list.map (setAdrift station restarted (2 * s.cfg.transitMs)) },
      if marked then [.search] else [])
  else quiet s

/-- R29: the station is the target of a READY or a restart-marked ADRIFT entry. -/
def isTarget (s : State) (station : Nat) : Bool :=
  s.custody.list.any fun e =>
    (e.state == .ready && targetOf s.cfg e == station) || (e.state == .adrift && e.restart && e.target == station)

/-- R29: a STATUS, an ALARM or a change of freshness of a station. -/
def takePeerNews (station : Nat) (s : State) : Fx := if isTarget s station then candidateSearch s else quiet s

/-- R34: EXIT high for a full gate time from now. -/
def openExit (s : State) : State := s.onHandoff fun h => { h with exitGate := true, gate := some s.cfg.gateMs }

/-- R37, late ACCEPT: WITHDRAW to its sender; nothing else changes. -/
def lateAccept (t : Token) (origin : Nat) (s : State) : Fx := queueWithdraw t origin s

/-- R33, R45: a matching ACCEPT. -/
def matchedAccept (o : Offer) (s : State) : Fx :=
  if offersOffered s o then
    if Hazard.atHold s.hazard.line then withdrawOffer o s
    else
      quiet (openExit (requestState o.token .offered .inTransit
        (fun e => { e with target := o.target, adrift := none, restart := false }) (clearOffer s)))
  else
    quiet (changeEntry o.token (fun e => { e with restart := false, adrift := some (2 * s.cfg.transitMs) })
      (clearOffer s))

/-- R35, R45: a matching REFUSE. -/
def matchedRefuse (o : Offer) (r : Reason) (s : State) : State :=
  if offersOffered s o then
    startRetry (countCustody (fun c => { c with refusalsReceived := c.refusalsReceived.bump })
      (returnOffered o.token (changeEntry o.token (fun e => { e with refusal := some r }) (clearOffer s))))
  else startRetry (clearOffer s)

/-- R33, R35, R37: the reply names the outstanding offer's token and comes from its target. -/
def matchesOffer (s : State) (t : Token) (origin : Nat) : Option Offer :=
  s.handoff.offer.filter fun o => o.token == t && o.target == origin

/-- R31, Table 14: the first reason that holds, in order; a QUARANTINE tests BUSY, FULL and DUPLICATE alone. -/
def refusalReason (s : State) (p : PackRecord) : Option Reason :=
  let quarantine := s.cfg.role == .quarantine
  let shredder := s.cfg.role == .shredder
  if s.handoff.expect.isSome then some .busy
  else if stationFull s || (s.cfg.role == .discharge && freeChannels s == 0) then some .full
  else if !quarantine && Hazard.atHold s.hazard.line then some .hazard
  else if s.custody.list.any (·.pack.token == p.token) then some .duplicate
  else if !quarantine && p.hops == 15 then some .hops
  else if shredder && !p.summary.any (·.verdict == .discharged) then some .notDischarged
  else if shredder && p.summary.any (fun m => s.cfg.acceptVolts < m.restVolts) then some .overVoltage
  else if shredder && p.damaged then some .packClass
  else if shredder && s.chamber.state != .inert then some .notInert
  else none

/-- R32: the expectation opens with the record, hops + 1 up to 15, and the transit timer starts; ACCEPT is queued. -/
def acceptOffer (p : PackRecord) (origin : Nat) (s : State) : Fx :=
  queueCustody origin (.accept p.token)
    (s.onHandoff fun h =>
      { h with expect := some ⟨{ p with hops := min 15 (p.hops + 1) }, origin⟩, transit := some s.cfg.transitMs })

/-- R32: REFUSE with the reason, refusals sent + 1. -/
def refuseOffer (p : PackRecord) (r : Reason) (origin : Nat) (s : State) : Fx :=
  (queueCustody origin (.refuse p.token r) s).after
    (countCustody fun c => { c with refusalsSent := c.refusalsSent.bump })

/-- R38, R39, R40: the expectation closes and the transit timer stops. -/
def closeExpectation (s : State) : State := s.onHandoff fun h => { h with expect := none, transit := none }

end Sys2Proof.Machine
end

