-- ==== Sys2Proof/Machine/ZoneOps.lean ====
section
/-! DEFINITION. Zone logic's operations (chapter 6): health and effective mode, confirmation, the coincidence window,
persistence, FAULT, the restore key. Zone logic takes changes of point states in RUN (R113). -/
namespace Sys2Proof.Machine

/-- The points 1 to 12. -/
def allPoints : List PointId := List.finRange 12

/-- The zones 1 to 4. -/
def allZones : List ZoneId := [0, 1, 2, 3]

/-- The zone 1–4 of a configured zone number, none for 0. -/
def zoneOfNumber (n : Nat) : Option ZoneId := if h : 1 ≤ n ∧ n ≤ 4 then some ⟨n - 1, by omega⟩ else none

/-- R100: the members of a zone: its points that are not DISABLED. -/
def isMember (cfg : Config) (z : ZoneId) (p : PointId) : Bool :=
  cfg.points[p].zone == z.val + 1 && cfg.points[p].kind != .disabled

/-- R100: the members in point order. -/
def membersOf (cfg : Config) (z : ZoneId) : List PointId := allPoints.filter (isMember cfg z)

/-- R101: a member is healthy while its reported state is NORMAL, WARN or ALARM. -/
def PointReport.healthy : PointReport → Bool
  | .normal | .warn | .alarm => true
  | .disabled | .testing | .fault => false

/-- R101: the healthy count. -/
def healthyCount (s : State) (z : ZoneId) : Nat :=
  ((membersOf s.cfg z).filter fun p => PointReport.healthy s.zones.members[p]).length

/-- R101: a COINCIDENCE zone whose healthy count is 1 takes effective mode SINGLE. -/
def effectiveMode (m : ZoneMode) (healthy : Nat) : ZoneMode := if healthy = 1 then .single else m

/-- R101: the first member reporting ALARM. -/
def alarmingMember (s : State) (z : ZoneId) : Option PointId :=
  (membersOf s.cfg z).find? fun p => s.zones.members[p] == .alarm

/-- A zone record changed. -/
def changeZone (z : ZoneId) (f : Zone → Zone) (s : State) : State :=
  s.onZones fun k => { k with zones := modifyAt k.zones z f }

/-- A zone count changed. -/
def countZone (f : ZoneCounts → ZoneCounts) (z : Zone) : Zone := { z with counts := f z.counts }

/-- R111: any change of a zone's state goes to the scanner. -/
def zoneChanged : List Notice := [.scannerLook]

/-- R102: the record of a zone that confirms. -/
def confirmRecord (p : PointId) (b : Basis) (clock : Clock) (z : Zone) : Zone :=
  { z with status := .confirmed, window := .none, heldPoint := none, heldTime := none, confirming := some p,
           confirmTime := some clock, basis := some b,
           counts := { z.counts with confirmations := z.counts.confirmations.bump } }

/-- R102: every persistence timer of the zone stops. -/
def stopPersistence (z : ZoneId) (s : State) : State :=
  s.onZones fun k =>
    { k with persist := tabulate fun p => if isMember s.cfg z p then none else k.persist[p] }

/-- R102, R111: the zone enters CONFIRMED and the change is handed on. -/
def confirmZone (z : ZoneId) (p : PointId) (b : Basis) (s : State) : Fx :=
  (stopPersistence z (changeZone z (confirmRecord p b s.clock) s),
    [.zoneConfirmed z p, .chamberConfirmed z] ++ zoneChanged)

/-- R103: a COINCIDENCE zone in QUIET holds the first alarm. -/
def enterPending (z : ZoneId) (p : PointId) (s : State) : Fx :=
  (flagZonePending (changeZone z (fun r =>
      { r with status := .pending, heldPoint := some p, heldTime := some s.clock,
               window := .running s.cfg.zones[z].windowMs,
               counts := { r.counts with pendings := r.counts.pendings.bump } }) s),
    zoneChanged)

/-- R105, R106, R108: back to QUIET, nothing held. -/
def quietRecord (z : Zone) : Zone := { z with status := .quiet, heldPoint := none, heldTime := none, window := .none }

/-- R108: FAULT, nothing held, fault entries + 1. -/
def faultRecord (z : Zone) : Zone :=
  { z with status := .fault, heldPoint := none, heldTime := none, window := .none,
           counts := { z.counts with faults := z.counts.faults.bump } }

/-- R109, step 1: the member's state recorded, count and effective mode worked out again. -/
def workHealth (z : ZoneId) (s : State) : State :=
  changeZone z (fun r => { r with healthy := healthyCount s z, mode := effectiveMode s.cfg.zones[z].mode (healthyCount s z) }) s

/-- R109, step 2 (R108): a used zone enters FAULT at count 0, leaves it for QUIET at 1 or more. -/
def workFault (z : ZoneId) (s : State) : Fx :=
  let r := s.zones.zones[z]
  if (membersOf s.cfg z).isEmpty then quiet s
  else if (r.status = .quiet ∨ r.status = .pending) ∧ r.healthy = 0 then
    (changeZone z faultRecord s, .fact (.zoneFault z true) :: zoneChanged)
  else if r.status = .fault ∧ 1 ≤ r.healthy then
    (changeZone z quietRecord s, .fact (.zoneFault z false) :: zoneChanged)
  else quiet s

/-- R109, step 3 (R107): the member's persistence timer starts at a change into ALARM in QUIET or PENDING and stops
when the member leaves ALARM. -/
def workPersistence (z : ZoneId) (p : PointId) (st : PointReport) (s : State) : State :=
  let status := s.zones.zones[z].status
  if st = .alarm then
    if s.cfg.zones[z].persistMs ≠ 0 ∧ (status = .quiet ∨ status = .pending) then
      s.onZones fun k => { k with persist := k.persist.set p (some s.cfg.zones[z].persistMs) }
    else s
  else s.onZones fun k => { k with persist := k.persist.set p none }

/-- R109, step 4: an ALARM event judged by the zone's state and effective mode (R101, R103, R104, R106). DESIGN CHOICE
(log 33): a PENDING zone whose effective mode has become SINGLE confirms with basis SINGLE (R101), not COINCIDENCE
(R104). -/
def judgeAlarm (z : ZoneId) (p : PointId) (s : State) : Fx :=
  let r := s.zones.zones[z]
  match r.status with
  | .quiet =>
    match r.mode with
    | .single => confirmZone z p .single s
    | .coincidence => enterPending z p s
  | .pending =>
    match r.mode with
    | .single => confirmZone z p .single s
    | .coincidence => if r.heldPoint = some p then quiet s else confirmZone z p .coincidence s
  | .confirmed | .fault => quiet s

/-- R109, step 5: another change: the SINGLE confirmation of R101, or the held point leaving ALARM with the window
lapsed (R106). DESIGN CHOICE (log 34): where that change also brings the healthy count to 1, R106 returns the zone to
QUIET, not R108's staying PENDING. -/
def judgeOther (z : ZoneId) (p : PointId) (s : State) : Fx :=
  let r := s.zones.zones[z]
  match r.status, r.mode, alarmingMember s z with
  | .quiet, .single, some m => confirmZone z m .single s
  | .pending, .single, some m => confirmZone z m .single s
  | .pending, _, _ =>
    if r.window = .lapsed ∧ r.heldPoint = some p then (changeZone z quietRecord s, zoneChanged) else quiet s
  | _, _, _ => quiet s

/-- R109, step 1: the state of a member as last passed. -/
def recordMember (p : PointId) (st : PointReport) (s : State) : State :=
  s.onZones fun k => { k with members := k.members.set p st }

/-- R109: zone logic takes a change of a point's reported state. -/
def takePointState (p : PointId) (st : PointReport) (s : State) : Fx :=
  if s.running then
    match zoneOfNumber s.cfg.points[p].zone with
    | some z =>
      let s := workHealth z (recordMember p st s)
      ((workFault z s).after (workPersistence z p st)).andThen
        (if st = .alarm then judgeAlarm z p else judgeOther z p)
    | none => quiet s
  else quiet s

/-- R109 at RUN entry, first part: all states recorded, every count and mode, each used zone with no healthy member
in FAULT. -/
def zonesAtRunEntry (s : State) : Fx :=
  let s := s.onZones fun k => { k with members := tabulate fun p => s.points[p].reported }
  forEach (fun z s => workFault z (workHealth z s)) allZones s

/-- R109 at RUN entry, last part: a point in ALARM is an ALARM event. -/
def alarmAtRunEntry (p : PointId) (s : State) : Fx :=
  match s.zones.members[p], zoneOfNumber s.cfg.points[p].zone with
  | .alarm, some z => judgeAlarm z p (workPersistence z p .alarm s)
  | _, _ => quiet s

/-- R110: the restore key at one zone. -/
def restoreZone (z : ZoneId) (s : State) : Fx :=
  let r := s.zones.zones[z]
  if r.status = .confirmed then
    if (alarmingMember s z).isSome then
      quiet (changeZone z (countZone fun k => { k with restoresRefused := k.restoresRefused.bump }) s)
    else
      let cleared (r : Zone) : Zone :=
        { r with confirming := none, confirmTime := none, basis := none,
                 counts := { r.counts with restoresTaken := r.counts.restoresTaken.bump } }
      let left : List Notice := [.zoneCleared z, .chamberCleared z] ++ zoneChanged
      if 1 ≤ r.healthy then (changeZone z (fun r => quietRecord (cleared r)) s, left)
      else (changeZone z (fun r => faultRecord (cleared r)) s, .fact (.zoneFault z true) :: left)
  else quiet s

/-- R110: each zone is judged on its own members. -/
def restoreZones (s : State) : Fx := if s.running then forEach restoreZone allZones s else quiet s

/-- R105: the window of a PENDING zone expires. DESIGN CHOICE (log 37): with another member than the held point in ALARM,
which R105's table does not give, the zone stays PENDING with the window lapsed. -/
def expireWindow (z : ZoneId) (s : State) : Fx :=
  let r := s.zones.zones[z]
  if r.heldPoint.any (fun p => s.zones.members[p] == .alarm) || (alarmingMember s z).isSome then
    (changeZone z (fun r => { r with window := .lapsed }) s, zoneChanged)
  else (changeZone z quietRecord s, zoneChanged)

/-- R107: a member's persistence timer expires with the zone QUIET or PENDING. -/
def expirePersistence (p : PointId) (s : State) : Fx :=
  let s := s.onZones fun k => { k with persist := k.persist.set p none }
  match zoneOfNumber s.cfg.points[p].zone with
  | some z =>
    let status := s.zones.zones[z].status
    if status = .quiet ∨ status = .pending then confirmZone z p .persistence s else quiet s
  | none => quiet s

/-- R94: the zone of a point is PENDING or CONFIRMED. -/
def zoneDefers (s : State) (p : PointId) : Bool :=
  match zoneOfNumber s.cfg.points[p].zone with
  | some z => s.zones.zones[z].status == .pending || s.zones.zones[z].status == .confirmed
  | none => false

end Sys2Proof.Machine
end

