-- ==== Sys2Proof/Machine/PointOps.lean ====
section
/-! DEFINITION. The point scanner's operations (chapter 5): reported states, scans, pulse windows, the self-test rounds.
The scanner works in the start phases TEST, BASELINE and RUN (R99) and passes states on in RUN (R91). -/
namespace Sys2Proof.Machine

/-- R99: the phases in which points are scanned and windows run. -/
def Phase.scans : Phase → Bool
  | .test | .baseline | .run => true
  | .load | .check | .join | .faulted => false

/-- The point number 1–8 of an analogue input. -/
def analoguePoint (p : AnalogueId) : PointId := ⟨p.val, by omega⟩

/-- The point number 9–12 of a pulse input. -/
def pulsePoint (p : PulseId) : PointId := ⟨p.val + 8, by omega⟩

/-- A point's record changed. -/
def changePoint (p : PointId) (f : Point → Point) (s : State) : State := s.onPoints fun ps => modifyAt ps p f

/-! ## Reported state -/

/-- R82: the point is in the lamp-on or release part of a test. -/
def Scanner.testing (k : Scanner) (p : PointId) : Bool :=
  match k.round with
  | some r => r.point == p && (match r.part with
    | .lamp | .release _ => true
    | .waiting | .moving => false)
  | none => false

/-- Table 21: the reported state, the first line that applies. -/
def reportOf (kind : PointKind) (testing : Bool) (pt : Point) : PointReport :=
  if kind = .disabled then .disabled
  else if testing then .testing
  else if pt.band || pt.noBaseline || pt.stuck || pt.testFault then .fault
  else match pt.level with
    | .alarm => .alarm
    | .warn => .warn
    | .normal => .normal

/-- R98: the counts of a change of reported state that is passed on. -/
def countReport (st : PointReport) (k : PointCounts) : PointCounts :=
  match st with
  | .alarm => { k with alarms := k.alarms.bump }
  | .fault => { k with faults := k.faults.bump }
  | .disabled | .testing | .warn | .normal => k

/-- R91, R98, R124: what a state passed on in RUN counts and flags. -/
def passState (p : PointId) (st : PointReport) (s : State) : State :=
  let s := changePoint p (fun pt => { pt with counts := countReport st pt.counts }) s
  if st = .alarm then flagPointAlarm s else s

/-- R91, R129: who is told of a point's reported state. DESIGN CHOICE (logs 4 and 36): zone logic first, then the
evaluator, and the chamber oxygen last. -/
def pointTold (p : PointId) (st : PointReport) : List Notice := [.zonePoint p st, .fact (.point p st), .oxygen]

/-- R82, R91: the reported state derived afresh; a change is passed on in RUN. -/
def refreshPoint (p : PointId) (s : State) : Fx :=
  let st := reportOf s.cfg.points[p].kind (Scanner.testing s.scanner p) s.points[p]
  if st = s.points[p].reported then quiet s
  else
    let s := changePoint p (fun pt => { pt with reported := st }) s
    if s.running then (passState p st s, pointTold p st) else quiet s

/-! ## Rounds of self-tests -/

/-- R92: the lowest-numbered line that names the point. -/
def lineOf (cfg : Config) (p : PointId) : Option (Fin 4) :=
  (List.finRange 4).find? fun l => cfg.testLines[l] == p.val + 1

/-- R92: named by a line in use and not DISABLED. -/
def testEnabled (cfg : Config) (p : PointId) : Bool := (lineOf cfg p).isSome && cfg.points[p].kind != .disabled

/-- R93: a fault with which a point is not tested; a test fault is none. -/
def Point.untestable (pt : Point) : Bool := pt.band || pt.stuck || pt.noBaseline

/-- R86: the scans of one rate interval, one every 10 ms. -/
def rateScans (c : PointCfg) : Nat := c.span * 100

/-- R86: a RATE point whose history does not reach back one interval. -/
def unsettled (c : PointCfg) (p : PointId) (pt : Point) : Bool :=
  p.val < 8 && c.mode == .rate && pt.history.length < rateScans c + 1

/-- R94: the test of a point is deferred. -/
def testDeferred (s : State) (p : PointId) : Bool := zoneDefers s p || Hazard.atHold s.hazard.line

/-- The round stands at `p` in this part. -/
def setPart (part : TestPart) (p : PointId) (s : State) : State :=
  s.onScanner fun k => { k with round := k.round.map fun r => { r with point := p, part := part } }

/-- R93: the result SKIPPED. -/
def skipPoint (p : PointId) (s : State) : State :=
  changePoint p (fun pt => { pt with result := some .skipped, resultTime := some s.clock }) s

/-- R95, R129: the lamp goes on: the line high, the test timer started, the held reading kept, TESTING passed on. -/
def lampOn (p : PointId) (s : State) : Fx :=
  let s := (setPart .lamp p s).onScanner fun k =>
    { k with testTimer := some s.cfg.testMs,
             lamps := match lineOf s.cfg p with
               | some l => k.lamps.set l true
               | none => k.lamps }
  refreshPoint p (changePoint p (fun pt => { pt with heldReading := pt.inBand }) s)

/-- The lamp goes low and the test timer stops. -/
def lampOff (s : State) : State :=
  s.onScanner fun k => { k with testTimer := none, lamps := Vector.replicate 4 false }

/-- R93, R190: the round ends: from the start-up round into BASELINE for 160 ms, from an interval round to a new test
interval. -/
def endRound (startup : Bool) (s : State) : State :=
  let s := s.onScanner fun k => { k with round := none }
  if startup then s.onLoader fun l => { l with phase := .baseline, baselineTimer := some 160 }
  else s.onScanner fun k => { k with intervalTimer := some s.cfg.intervalMs }

/-- R93, R94: the round comes to these points in order: it passes points that are not test-enabled, skips points with a
fault, and stops at the first whose lamp goes on or which holds it. -/
def roundOver (startup : Bool) : List PointId → State → Fx
  | [], s => quiet (endRound startup s)
  | p :: ps, s =>
    if !testEnabled s.cfg p then roundOver startup ps s
    else if Point.untestable s.points[p] then roundOver startup ps (skipPoint p s)
    else if startup && unsettled s.cfg.points[p] p s.points[p] then quiet (setPart .waiting p s)
    else if !startup && testDeferred s p then quiet (setPart .waiting p s)
    else lampOn p s

/-- R93: the round goes on from the point with this number less 1. -/
def roundFrom (n : Nat) (s : State) : Fx :=
  match s.scanner.round with
  | some r => roundOver r.startup (allPoints.drop n) s
  | none => quiet s

/-- R93: a round begins. -/
def beginRound (startup : Bool) (s : State) : Fx :=
  roundOver startup allPoints (s.onScanner fun k => { k with round := some ⟨startup, 0, .waiting⟩, intervalTimer := none })

/-- R93, R94, R96: the round is held at a point; when nothing holds it any more the point is skipped for a fault or its
lamp goes on. -/
def lookAgain (r : Round) (s : State) : Fx :=
  if (if r.startup then unsettled s.cfg.points[r.point] r.point s.points[r.point] else testDeferred s r.point) then
    quiet s
  else if Point.untestable s.points[r.point] then
    (setPart .moving r.point (skipPoint r.point s), [.roundFrom (r.point.val + 1)])
  else lampOn r.point s

/-- R96: a test is aborted: the lamp off, the release part begun, the result left as it was. -/
def abortTest (p : PointId) (s : State) : State :=
  let s := (lampOff (setPart (.release true) p s)).onScanner fun k => { k with releaseTimer := some s.cfg.releaseMs }
  changePoint p (fun pt => { pt with counts := { pt.counts with aborts := pt.counts.aborts.bump } }) s

/-- R94, R96: the scanner looks at a change of a zone's state or of the line hazard. -/
def scannerLook (s : State) : Fx :=
  match s.scanner.round with
  | some r =>
    if s.running ∧ r.startup = false then
      match r.part with
      | .waiting => lookAgain r s
      | .lamp => if testDeferred s r.point then quiet (abortTest r.point s) else quiet s
      | .release _ | .moving => quiet s
    else quiet s
  | none => quiet s

/-- R96: the round is held again at its point after the release part of an abort. -/
def roundAgain (s : State) : Fx :=
  match s.scanner.round with
  | some r => lookAgain { r with part := .waiting } (setPart .waiting r.point s)
  | none => quiet s

/-- R85: the provisional baseline is discarded and the level set to NORMAL. -/
def dropProvisional (pt : Point) : Point :=
  if pt.provisional.isSome then { pt with provisional := none, level := .normal } else pt

/-- R95: a test ends PASS: the release part begins. -/
def passTest (p : PointId) (s : State) : State :=
  let s := (lampOff (setPart (.release false) p s)).onScanner fun k => { k with releaseTimer := some s.cfg.releaseMs }
  changePoint p (fun pt =>
    { pt with result := some .pass, resultTime := some s.clock, testFault := false,
              counts := { pt.counts with passes := pt.counts.passes.bump } }) s

/-- R95: a test ends FAIL: no release part; FAULT is passed on and the round moves on. -/
def failTest (p : PointId) (s : State) : Fx :=
  let s := lampOff (setPart .moving p s)
  let s := changePoint p (fun pt =>
    { dropProvisional pt with
      result := some .fail, resultTime := some s.clock, testFault := true,
      counts := { pt.counts with fails := pt.counts.fails.bump } }) s
  (refreshPoint p s).tell [.roundFrom (p.val + 1)]

/-- R97, R96: the release part ends: the reported state passed on, then the next point, or the same after an abort. -/
def endRelease (p : PointId) (aborted : Bool) (s : State) : Fx :=
  let s := (setPart .moving p s).onScanner fun k => { k with releaseTimer := none }
  (refreshPoint p (changePoint p dropProvisional s)).tell (if aborted then [.roundAgain] else [.roundFrom (p.val + 1)])

/-- The lamp of the point is on. -/
def lampIsOn (s : State) (p : PointId) : Bool :=
  match s.scanner.round with
  | some r => r.point == p && r.part == .lamp
  | none => false

/-! ## Analogue scans -/

/-- R83: in the fault band's inside. -/
def inFaultBand (c : PointCfg) (r : Int) : Bool := c.low ≤ r && r ≤ c.high

/-- R86: the compare value of a RATE point: against the reading one interval earlier, 0 until there is one or when it
was out of band. The history holds the present reading first. -/
def rateCompare (c : PointCfg) (history : List Int) (r : Int) : Int :=
  match history[rateScans c]? with
  | some old => if inFaultBand c old then r - old else 0
  | none => 0

/-- R84: the compare value; a BASELINE point without a reference has none. -/
def compareValue (c : PointCfg) (pt : Point) (r : Int) : Option Int :=
  match c.mode with
  | .absolute => some r
  | .rate => some (rateCompare c pt.history r)
  | .baseline => (match pt.provisional with
    | some b => some b
    | none => pt.baseline).map (r - ·)

/-- R87: the evaluated level. -/
def nextLevel (c : PointCfg) (before : PointLevel) (v : Int) : PointLevel :=
  let w : Int := c.warn
  let a : Int := c.alarm
  let h : Int := c.hyst
  match before with
  | .normal => if a ≤ v then .alarm else if w ≤ v then .warn else .normal
  | .warn => if a ≤ v then .alarm else if w ≤ v then .warn else if v < w - h then .normal else .warn
  | .alarm =>
    if a ≤ v then .alarm
    else if a - h ≤ v then .alarm
    else if w ≤ v then .warn
    else if v < w - h then .normal
    else .warn

/-- R86: the reading joins the history of a RATE point, which reaches back one interval. -/
def keepHistory (c : PointCfg) (r : Int) (pt : Point) : Point :=
  if c.mode = .rate then { pt with history := (r :: pt.history).take (rateScans c + 1) } else pt

/-- R85: one of the 16 baseline scans of a BASELINE point. -/
def keepBaselineScan (phase : Phase) (c : PointCfg) (r : Int) (pt : Point) : Point :=
  if phase = .baseline ∧ c.mode = .baseline ∧ pt.baseScans < 16 then
    { pt with baseScans := pt.baseScans + 1,
              baseSum := if inFaultBand c r then pt.baseSum + r else pt.baseSum,
              baseCount := if inFaultBand c r then pt.baseCount + 1 else pt.baseCount }
  else pt

/-- R85: the first scan under the lamp in the TEST phase gives the provisional baseline. -/
def takeProvisional (lampInTest : Bool) (c : PointCfg) (r : Int) (pt : Point) : Point :=
  if lampInTest ∧ c.mode = .baseline ∧ pt.provisional = none then { pt with provisional := some r } else pt

/-- R83: recovery from a band fault at an in-band scan. -/
def recover (pt : Point) : Point :=
  if pt.band then
    if pt.recovery + 1 = 100 then { pt with band := false, recovery := 100, level := .normal }
    else { pt with recovery := pt.recovery + 1 }
  else pt

/-- R84, R87: the level worked out from the compare value. -/
def evaluate (c : PointCfg) (r : Int) (pt : Point) : Point :=
  match compareValue c pt r with
  | some v => { pt with compare := some v, level := nextLevel c pt.level v }
  | none => pt

/-- R83–R87: the record of a point after a scan. -/
def scanRecord (phase : Phase) (lampInTest : Bool) (c : PointCfg) (r : Int) (pt : Point) : Point :=
  let pt := keepBaselineScan phase c r (keepHistory c r { pt with reading := some r })
  if inFaultBand c r then evaluate c r (recover (takeProvisional lampInTest c r { pt with inBand := some r }))
  else { pt with band := true, recovery := 0 }

/-- R95: how a scan or a window end with this fault decides a test whose lamp is on; otherwise the state is derived
afresh. DESIGN CHOICE (log 32): a level that stood at ALARM before the lamp went on counts as reached at the next scan or
window end. -/
def judgeTest (p : PointId) (fault : Bool) (s : State) : Fx :=
  if lampIsOn s p then
    if fault then failTest p s
    else if s.points[p].level = .alarm then refreshPoint p (passTest p s)
    else refreshPoint p s
  else refreshPoint p s

/-- R93: a start-up round held at this point by its unsettled history goes on at the scan that settles it. -/
def lookWhenSettled (p : PointId) (s : State) : Fx :=
  match s.scanner.round with
  | some r => if r.startup = true ∧ r.point = p ∧ r.part = .waiting then lookAgain r s else quiet s
  | none => quiet s

/-- R83: an analogue point is scanned. -/
def scanPoint (p : PointId) (reading : Int) (s : State) : Fx :=
  let c := s.cfg.points[p]
  let r := holdReading c.kind reading
  let s := changePoint p (scanRecord s.loader.phase (lampIsOn s p && s.loader.phase == .test) c r) s
  ((judgeTest p (!inFaultBand c r) s).andThen (lookWhenSettled p)).tell [.oxygen]

/-! ## Pulse points -/

/-- R88: the level after the selected edge. -/
def activeLevel : EdgeSelect → Bool
  | .rising => true
  | .falling => false

/-- R88, R90: the edges and the levels that samples bring to a pulse point. -/
def countEdges (c : PointCfg) (f : Filter) (samples : List Bool) (pt : Point) : Point :=
  let active := activeLevel c.edge
  { pt with windowCount := min 65535 (pt.windowCount + Filter.edges active f samples),
            away := pt.away || Filter.visits (!active) f samples }

/-- R89: the level of a window's count. -/
def windowLevel (c : PointCfg) (n : Nat) : PointLevel :=
  if c.alarm ≤ n then .alarm else if c.warn ≤ n then .warn else .normal

/-- R88: a window begins. -/
def beginWindow (c : PointCfg) (level : Bool) (pt : Point) : Point :=
  { pt with windowCount := 0, window := some (c.span * 1000), away := level != activeLevel c.edge }

/-- R89, R90: the record of a pulse point after a window end. -/
def windowRecord (c : PointCfg) (level : Bool) (pt : Point) : Point :=
  beginWindow c level
    (if pt.away then { pt with stuck := false, level := windowLevel c pt.windowCount } else { pt with stuck := true })

/-- R89: a pulse window ends. -/
def endWindow (q : PulseId) (s : State) : Fx :=
  let p := pulsePoint q
  let s := changePoint p (windowRecord s.cfg.points[p] s.pins.pulse[q].level) s
  judgeTest p s.points[p].stuck s

/-- R88, R190: at TEST entry every pulse point in use starts its first window. -/
def beginWindows (s : State) : State :=
  s.onPoints fun ps => tabulate fun p =>
    if h : 8 ≤ p.val then
      if s.cfg.points[p].kind = .disabled then ps[p]
      else beginWindow s.cfg.points[p] (s.pins.pulse[p.val - 8]'(by omega)).level ps[p]
    else ps[p]

/-! ## The BASELINE phase -/

/-- R85: the baseline of a BASELINE point captured, or its no-baseline fault; the level worked out afresh at the
capturing scan. -/
def captureBaseline (c : PointCfg) (pt : Point) : Point :=
  if c.kind = .disabled ∨ c.mode ≠ .baseline then pt
  else if pt.baseCount = 0 then { pt with noBaseline := true }
  else
    let pt := { pt with baseline := some (pt.baseSum.tdiv pt.baseCount), level := .normal }
    match pt.reading with
    | some r => if inFaultBand c r then evaluate c r pt else pt
    | none => pt

/-- R85: the baselines of the analogue points. -/
def captureBaselines (s : State) : State :=
  s.onPoints fun ps => tabulate fun p => if p.val < 8 then captureBaseline s.cfg.points[p] ps[p] else ps[p]

end Sys2Proof.Machine
end

