-- ==== Sys2Proof/Machine/ChamberOps.lean ====
section
/-! DEFINITION. The operations of the atmosphere controller, the rotor monitor and the feed monitor (chapter 8). The
three act at a SHREDDER in RUN. -/
namespace Sys2Proof.Machine

/-- Chapter 8: the three blocks act. -/
abbrev chamberActs (s : State) : Prop := s.running ∧ s.cfg.role = .shredder

/-! ## Chamber oxygen -/

/-- R129: the point is an OXYGEN member of the chamber zone. -/
def isOxygenMember (cfg : Config) (p : PointId) : Bool :=
  cfg.chamberZone != 0 && cfg.points[p].zone == cfg.chamberZone && cfg.points[p].kind == .oxygen

/-- R129: what a member contributes, by its reported state. -/
def contribution (pt : Point) : Option Nat :=
  match pt.reported with
  | .normal | .warn | .alarm => pt.inBand.map Int.toNat
  | .testing => pt.heldReading.map Int.toNat
  | .fault | .disabled => none

/-- The higher of two values that may be absent. -/
def maxOpt : Option Nat → Option Nat → Option Nat
  | some a, some b => some (max a b)
  | some a, none => some a
  | none, b => b

/-- R129: the highest contribution, none for unknown. -/
def chamberOxygen (s : State) : Option Nat :=
  (allPoints.filter (isOxygenMember s.cfg)).foldl (fun o p => maxOpt o (contribution s.points[p])) none

/-- R129: a value of the chamber oxygen for comparing and recording; unknown is 2,501, above every O2_alarm. -/
def oxygenValue (o : Option Nat) : Nat := o.getD 2501

/-- R132: at or below O2_run. -/
def settledOxygen (cfg : Config) (o : Option Nat) : Bool := oxygenValue o ≤ cfg.o2Run

/-- R130: the open point of the purge valve. -/
def openPoint (cfg : Config) : Nat := cfg.o2Run + (cfg.o2Warn - cfg.o2Run) / 2

/-! ## Atmosphere states -/

/-- R131: the rotor monitor and the feed monitor take a change of atmosphere state. -/
def atmosphereTold : List Notice := [.rotorLook, .feedLook]

/-- R132, R136: the settle timer as set up on entry to PURGE or DEGRADED. -/
def settleSetUp (cfg : Config) (o : Option Nat) : Timer := if settledOxygen cfg o then some cfg.settleMs else none

/-- R131, R132, R136: PURGE or DEGRADED is entered: the valve open, the settle timer set up, the purge timer started. -/
def enterSpell (st : Atmos) (cfg : Config) (c : Chamber) : Chamber :=
  { c with state := st, purgeOpen := true, floodOpen := false, settle := settleSetUp cfg c.oxygen,
           purge := some cfg.purgeMs }

/-- R134: FLOOD is entered: both valves open, both timers stopped. -/
def enterFlood (c : Chamber) : Chamber :=
  { c with state := .flood, purgeOpen := true, floodOpen := true, settle := none, purge := none, overrun := false,
           floods := c.floods.bump }

/-- R132, R136: INERT is entered: the valve closed, both timers stopped. -/
def enterInert (c : Chamber) : Chamber :=
  { c with state := .inert, purgeOpen := false, settle := none, purge := none, overrun := false }

/-- R136: the O2_HIGH condition. -/
def oxygenHigh (cfg : Config) (c : Chamber) : Bool := cfg.o2Alarm ≤ oxygenValue c.oxygen || c.overrun

/-- R136: the condition is reported at every change of it. -/
def reportOxygen (s : State) : Fx :=
  let b := oxygenHigh s.cfg s.chamber
  if b = s.chamber.o2High then quiet s
  else (s.onChamber fun c => { c with o2High := b }, [.fact (.oxygen b)])

/-- R132: the settle timer at a change of oxygen in PURGE or DEGRADED; `was` and `now` say at or below O2_run. -/
def settleStep (cfg : Config) (was now : Bool) (t : Timer) : Timer :=
  if now && !was then some cfg.settleMs else if now then t else none

/-- R133: the chamber in INERT at a change of oxygen. -/
def inertStep (cfg : Config) (c : Chamber) : Chamber :=
  let v := oxygenValue c.oxygen
  if v ≤ cfg.o2Run then { c with purgeOpen := false }
  else if v ≤ openPoint cfg then c
  else if v < cfg.o2Warn then { c with purgeOpen := true }
  else { enterSpell .degraded cfg c with degradedEntries := c.degradedEntries.bump }

/-- R129, R132, R133: the chamber takes a new oxygen value by its state. -/
def oxygenStep (cfg : Config) (o : Option Nat) (c : Chamber) : Chamber :=
  let c' := { c with oxygen := o }
  match c.state with
  | .purge | .degraded =>
    { c' with settle := settleStep cfg (settledOxygen cfg c.oxygen) (settledOxygen cfg o) c.settle }
  | .inert => inertStep cfg c'
  | .flood | .inactive => c'

/-- R143: the peak of the FEEDING entry at a change of oxygen. -/
def raisePeak (o : Option Nat) (f : Feed) : Feed := { f with peak := f.peak.map (max (oxygenValue o)) }

/-- R129: the chamber oxygen worked out afresh; a change is taken by the controller, the feed monitor and the
accumulators. -/
def workOxygen (s : State) : Fx :=
  let o := chamberOxygen s
  if chamberActs s ∧ o ≠ s.chamber.oxygen then
    let before := s.chamber.state
    let s := (s.onChamber (oxygenStep s.cfg o)).onFeed (raisePeak o)
    (reportOxygen s).tell (if s.chamber.state = before then [] else atmosphereTold)
  else quiet s

/-- R131: the controller's RUN entry at a SHREDDER. -/
def chamberAtRunEntry (s : State) : Fx :=
  if chamberActs s then
    let s := s.onChamber fun c =>
      let c := { c with oxygen := chamberOxygen s }
      if c.confirmed.toList.any id then enterFlood c else enterSpell .purge s.cfg c
    (reportOxygen s).tell atmosphereTold
  else quiet s

/-- R134: a zone entered CONFIRMED. -/
def chamberTakesConfirmed (z : ZoneId) (s : State) : Fx :=
  if chamberActs s then
    let s := s.onChamber fun c => { c with confirmed := c.confirmed.set z true }
    match s.chamber.state with
    | .purge | .inert | .degraded => (reportOxygen (s.onChamber enterFlood)).tell atmosphereTold
    | .flood | .inactive => quiet s
  else quiet s

/-- R135: the chamber leaves FLOOD for PURGE when no zone is CONFIRMED. -/
def leaveFlood (s : State) : Fx :=
  if s.chamber.state = .flood ∧ s.chamber.confirmed.toList.any id = false then
    (reportOxygen (s.onChamber (enterSpell .purge s.cfg))).tell atmosphereTold
  else quiet s

/-- R135: a zone left CONFIRMED. -/
def chamberTakesCleared (z : ZoneId) (s : State) : Fx :=
  if chamberActs s then leaveFlood (s.onChamber fun c => { c with confirmed := c.confirmed.set z false }) else quiet s

/-- R135: the restore key. -/
def chamberTakesRestore (s : State) : Fx := if chamberActs s then leaveFlood s else quiet s

/-- R132: the settle timer expires. -/
def expireSettle (s : State) : Fx :=
  if s.chamber.state = .purge ∨ s.chamber.state = .degraded then
    (reportOxygen (s.onChamber enterInert)).tell atmosphereTold
  else quiet s

/-- R136: the purge timer expires. -/
def expirePurge (s : State) : Fx := reportOxygen (s.onChamber fun c => { c with purge := none, overrun := true })

/-! ## Rotor monitor -/

/-- R138: the conditions of RUN. -/
abbrev mayTurn (s : State) : Prop :=
  chamberActs s ∧ Hazard.rank s.hazard.line < 3 ∧ (s.chamber.state = .inert ∨ s.chamber.state = .degraded)
    ∧ causeActive s .rotorStall = false

/-- R141: the labour condition set; a change is reported and is looked at by the feed monitor. -/
def setLabour (b : Bool) (s : State) : Fx :=
  if b = s.rotor.labour then quiet s
  else (s.onRotor fun r => { r with labour := b }, [.fact (.labour b), .feedLook])

/-- R138–R141: a start. -/
def startRotor (s : State) : Fx :=
  (setLabour false (s.onRotor fun r =>
    { r with run := true, starts := r.starts.bump, last := none, stall := some s.cfg.stallMs, upToSpeed := false,
             slow := 0 })).tell [.feedLook]

/-- R138, R140, R141: RUN deasserted. -/
def stopRotor (s : State) : Fx :=
  (setLabour false (s.onRotor fun r => { r with run := false, stall := none, slow := 0 })).tell [.feedLook]

/-- R138: the rotor monitor looks at the conditions of RUN. -/
def rotorLook (s : State) : Fx :=
  if mayTurn s then (if s.rotor.run then quiet s else startRotor s)
  else if s.rotor.run then stopRotor s
  else quiet s

/-- R141: a captured period judged: the rotor after it, its labour condition apart. -/
def judgePeriod (labourMs period : Nat) (r : Rotor) : Rotor :=
  if r.upToSpeed then { r with slow := if period ≤ labourMs then 0 else min 3 (r.slow + 1) }
  else if period ≤ labourMs then { r with upToSpeed := true, slow := 0 }
  else r

/-- R141: the labour condition after a captured period. -/
def labourAfter (labourMs period : Nat) (r : Rotor) : Bool :=
  if r.upToSpeed then (if period ≤ labourMs then false else r.labour || r.slow + 1 ≥ 3) else r.labour

/-- R139, R140: a rotor pulse. -/
def takeRotorPulse (s : State) : Fx :=
  let now := s.clock
  let stamped (r : Rotor) : Rotor := { r with last := some now, stall := some s.cfg.stallMs }
  match s.rotor.last with
  | none => quiet (s.onRotor stamped)
  | some before =>
    let period := now - before
    let labour := labourAfter s.cfg.labourMs period.toNat s.rotor
    setLabour labour (s.onRotor fun r =>
      { judgePeriod s.cfg.labourMs period.toNat (stamped r) with period := some period })

/-- R140: the stall timer expires. -/
def expireStall (s : State) : Fx :=
  (s.onRotor fun r => { r with stall := none, stalls := r.stalls.bump }, [.raise .rotorStall])

/-! ## Feed monitor -/

/-- R142: the feed conditions other than the entries. -/
abbrev mayFeed (s : State) : Prop :=
  chamberActs s ∧ s.rotor.run = true ∧ s.chamber.state = .inert ∧ Hazard.rank s.hazard.line ≤ 1
    ∧ s.rotor.labour = false

/-- The FEEDING entry. -/
def feedingEntry (s : State) : Option Entry := oldest s fun e => e.state == .feeding

/-- R142: the oldest READY entry that is eligible for feed. -/
def feedCandidate (s : State) : Option Entry := oldest s fun e => e.state == .ready && eligible e.pack

/-- R143, R144, R145: the gate closes. -/
def closeFeed (s : State) : State := s.onFeed fun f => { f with gate := false, timer := none, peak := none }

/-- R142: the gate opens for an entry. -/
def openFeed (e : Entry) (s : State) : State :=
  (requestState e.pack.token .ready .feeding id s).onFeed fun f =>
    { f with gate := true, timer := some s.cfg.feedMs, peak := some (oxygenValue s.chamber.oxygen),
             opened := f.opened.bump }

/-- R145: the feed conditions are lost: the entry is returned. -/
def returnFeed (e : Entry) (s : State) : State :=
  (requestState e.pack.token .feeding .ready id (closeFeed s)).onFeed fun f => { f with returned := f.returned.bump }

/-- R142, R145: a change `r` of the state `s` that loses the first of the feed conditions closes FEED and returns the
FEEDING entry in the same event. DESIGN CHOICE (log 4): before any hand-on of the change. -/
def Fx.closing (s : State) (r : Fx) : Fx :=
  match feedingEntry r.1 with
  | some e => if mayFeed s ∧ ¬ mayFeed r.1 then r.after (returnFeed e) else r
  | none => r

/-- R142, R145: the feed monitor looks at the feed conditions. -/
def feedLook (s : State) : Fx :=
  match feedingEntry s with
  | some e => if mayFeed s then quiet s else quiet (returnFeed e s)
  | none =>
    if mayFeed s then
      match feedCandidate s with
      | some e => quiet (openFeed e s)
      | none => quiet s
    else quiet s

/-- R144: the feed timer expires. -/
def expireFeed (e : Entry) (s : State) : Fx :=
  ((requestState e.pack.token .feeding .ready id (closeFeed s)).onFeed fun f => { f with timeouts := f.timeouts.bump },
    [.raise .custody, .feedLook])

end Sys2Proof.Machine
end

