-- ==== Sys2Proof/Machine/PeerOps.lean ====
section
/-! DEFINITION. The peer view's operations (chapter 9): taking a STATUS and an ALARM, sequence gaps, freshness, the
listen table, the peer level and the PEER_SILENT condition. -/
namespace Sys2Proof.Machine

/-- R149: the phases in which the peer view takes deliveries. -/
def Phase.viewsPeers : Phase → Bool
  | .join | .test | .baseline | .run => true
  | .load | .check | .faulted => false

/-- The peer number 1–31 of a station number. -/
def peerOfNumber (n : Nat) : Option PeerId := if h : 1 ≤ n ∧ n ≤ 31 then some ⟨n - 1, by omega⟩ else none

/-- The peers 1 to 31. -/
def allPeers : List PeerId := List.finRange 31

/-- A peer entry changed. -/
def changePeer (p : PeerId) (f : PeerEntry → PeerEntry) (s : State) : State :=
  s.onPeers fun v => { v with entries := modifyAt v.entries p f }

/-! ## The listen table -/

/-- R155: an entry of (0, 0) is unused. -/
def ListenEntry.used (e : ListenEntry) : Bool := e.station != 0 || e.zone != 0

/-- R155: the used entries. -/
def usedEntries (cfg : Config) : List ListenEntry := cfg.listen.filter ListenEntry.used

/-- R155: the entry takes this station's telegrams. -/
def ListenEntry.takesStation (e : ListenEntry) (n : Nat) : Bool := e.station == 0 || e.station == n

/-- R155: an ALARM carrying this zone matches the table. -/
def alarmMatches (cfg : Config) (station zone : Nat) : Bool :=
  (usedEntries cfg).isEmpty
    || (usedEntries cfg).any fun e => ListenEntry.takesStation e station && (e.zone == 0 || e.zone == zone)

/-- R155: a peer is listened when a STATUS from it would match; the station's own entry is not used (R148). -/
def listened (s : State) (p : PeerId) : Bool :=
  p.val + 1 != s.loader.own
    && ((usedEntries s.cfg).isEmpty || (usedEntries s.cfg).any fun e => ListenEntry.takesStation e (p.val + 1))

/-- R155: a peer is named when a used entry carries its number. -/
def named (cfg : Config) (p : PeerId) : Bool := (usedEntries cfg).any fun e => e.station == p.val + 1

/-! ## The peer causes -/

/-- R156: the map level of a hazard. -/
def mapLevel (cfg : Config) (h : Hazard) : Level :=
  match h with
  | .clear => cfg.peerMap[0]
  | .caution => cfg.peerMap[1]
  | .hold => cfg.peerMap[2]
  | .stop => cfg.peerMap[3]

/-- R156: a listened peer that is FRESH or STALE counts. -/
def countsForLevel (s : State) (p : PeerId) : Bool := listened s p && s.peers.entries[p].freshness != .silent

/-- R156: the peer level. -/
def peerLevel (s : State) : Level :=
  (allPeers.filter (countsForLevel s)).foldl (fun l p => Level.sup l (mapLevel s.cfg s.peers.entries[p].listened)) .off

/-- R157: a listened peer counts as silent. -/
def countsAsSilent (s : State) (p : PeerId) : Bool :=
  listened s p &&
    (if s.peers.entries[p].heard then s.peers.entries[p].freshness == .silent
     else named s.cfg p && s.peers.gracePassed)

/-- R157: the PEER_SILENT condition. -/
def peerSilentCondition (s : State) : Bool := allPeers.any (countsAsSilent s)

/-- R156, R118: the peer level worked out afresh; a change is reported. -/
def workLevel (s : State) : Fx :=
  let l := peerLevel s
  if l = s.peers.level then quiet s else (s.onPeers fun v => { v with level := l }, [.reassess])

/-- R157, R118: the PEER_SILENT condition worked out afresh; a change is reported. -/
def workSilent (s : State) : Fx :=
  let b := peerSilentCondition s
  if b = s.peers.silent then quiet s else (s.onPeers fun v => { v with silent := b }, [.reassess])

/-- R150 step 5, R153: both peer causes. -/
def workPeerCauses (s : State) : Fx := (workLevel s).andThen workSilent

/-- R150, R153, R154: what the peer view tells the hand-off controller after it has worked the peer causes. The evaluator
has taken their changes by then, and hands its own changes on after these (log 4). DESIGN CHOICE (log 42): it takes a change
of the peer level and one of PEER_SILENT that one event brings in one evaluation. -/
def tellHandoff (r : Fx) (ns : List Notice) : Fx :=
  let e := if r.2.isEmpty then quiet r.1 else reassess r.1
  (e.1, ns ++ e.2)

/-! ## STATUS and ALARM -/

/-- R151: the gap between two sequence numbers. -/
def sequenceGap (m n : Nat) : Nat := (n + 256 - m) % 256

/-- R151, R152: what a STATUS adds to the missed count. -/
def missedBy (e : PeerEntry) (f : StatusFields) : Nat :=
  if f.fresh || !e.heard || e.freshness != .fresh then 0
  else match e.seq with
    | some m => if 2 ≤ sequenceGap m f.seq then sequenceGap m f.seq - 1 else 0
    | none => 0

/-- R150: the declared period in ms, taken at the nearer limit. -/
def takenPeriod (units : Nat) : Nat := max 5 (min 100 units) * 10

/-- R150 steps 1 to 4, R151, R152: a peer entry after a STATUS. -/
def takeStatusFields (f : StatusFields) (clock : Clock) (e : PeerEntry) : PeerEntry :=
  let period := takenPeriod f.period
  { e with
    heard := true, role := f.role, phase := some f.phase, hazard := f.hazard, listened := f.hazard, atmos := f.atmos,
    free := f.free, count := f.count, flags := f.flags, due := f.due, clamped := f.clamped, seq := some f.seq,
    period := some period, lastHeard := some clock, freshness := .fresh, stale := some (2 * period),
    silent := some (4 * period), taken := e.taken + 1, missed := e.missed + BitVec.ofNat 32 (missedBy e f),
    restarts := if f.fresh then e.restarts + 1 else e.restarts }

/-- R150: a STATUS from another station. -/
def takeStatus (p : PeerId) (f : StatusFields) (s : State) : Fx :=
  let wasFresh := s.peers.entries[p].freshness == .fresh
  let n := p.val + 1
  tellHandoff (workPeerCauses (changePeer p (takeStatusFields f s.clock) s))
    ((if f.fresh then [.downstreamLost n true] else []) ++ (if wasFresh then [] else [.peerNews n]) ++ [.peerNews n])

/-- R154 steps 1 and 2: a peer entry after an ALARM. -/
def takeAlarmHazard (h : Hazard) (listens : Bool) (e : PeerEntry) : PeerEntry :=
  { e with hazard := h, listened := if listens then h else e.listened }

/-- R154: an ALARM from another station. -/
def takeAlarm (p : PeerId) (zone : Nat) (h : Hazard) (s : State) : Fx :=
  tellHandoff (workLevel (changePeer p (takeAlarmHazard h (alarmMatches s.cfg (p.val + 1) zone)) s))
    [.peerNews (p.val + 1)]

/-! ## Freshness -/

/-- R153: a FRESH entry becomes STALE. -/
def becomeStale (p : PeerId) (s : State) : Fx :=
  tellHandoff (workPeerCauses (changePeer p (fun e => { e with freshness := .stale, stale := none }) s))
    [.peerNews (p.val + 1)]

/-- R153: an entry becomes SILENT. -/
def becomeSilent (p : PeerId) (s : State) : Fx :=
  tellHandoff (workPeerCauses (changePeer p (fun e =>
      { e with freshness := .silent, stale := none, silent := none, silences := e.silences + 1 }) s))
    [.peerNews (p.val + 1), .downstreamLost (p.val + 1) false]

/-- R157: the grace time has passed. -/
def passGrace (s : State) : Fx := workSilent (s.onPeers fun v => { v with grace := none, gracePassed := true })

/-- R149: a delivery that bears the station's own number or 0. -/
def takeBadOrigin (origin : Nat) (s : State) : Fx :=
  if origin = s.loader.own then
    (s.onPeers fun v => { v with duplicates := v.duplicates.bump }, [.raise .link])
  else quiet (s.onPeers fun v => { v with badOrigins := v.badOrigins.bump })

end Sys2Proof.Machine
end

