-- ==== Sys2Proof/Machine/LineOps.lean ====
section
/-! DEFINITION. The line bus controller's operations (chapter 10): following frames, judging them, ending attempts,
building a STATUS. -/
namespace Sys2Proof.Machine

/-- The controller acts and has joined. -/
abbrev joined (s : State) : Prop := s.link.on = true ∧ s.link.state ≠ .unjoined

/-! ## Building a STATUS -/

/-- R171, R126: the station hazard a STATUS carries. -/
def statusHazard (s : State) : Hazard :=
  match s.loader.phase with
  | .run => s.hazard.station
  | .faulted => .stop
  | .load | .check | .join | .test | .baseline => .clear

/-- R171, R193: the fields of a STATUS built now; the sequence number is R170's to assign. -/
def statusFields (s : State) : StatusFields :=
  let faulted := s.loader.phase == .faulted
  { role := s.cfg.role, phase := s.loader.phase, hazard := statusHazard s,
    atmos := if faulted then .inactive else s.chamber.state,
    free := if faulted then 0 else freeCapacity s,
    count := if faulted then 0 else s.custody.list.length,
    flags := if faulted then .clear else s.hazard.flags,
    due := s.tally.due, clamped := !faulted && s.loader.clamped, fresh := s.link.fresh,
    period := s.cfg.statusMs / 10, seq := 0 }

/-- R171, R124: a STATUS is built and queued; the interval flags are cleared and the fresh-start flag disarmed. -/
def sendStatus (s : State) : State :=
  ((queueStatus (statusFields s) s).onHazard fun h => { h with flags := .clear }).onLink fun l =>
    { l with fresh := false }

/-- R171: a STATUS, and the timer for one period. -/
def statusTick (s : State) : State :=
  (sendStatus s).onLink fun l => { l with statusTimer := some s.cfg.statusMs }

/-! ## Following a frame -/

/-- What the controller finds as it follows the characters of a frame (R167). `noStop` gives the dominant run that the
stop bit read dominant belongs to. -/
inductive FrameFinding where
  | whole (bytes : List Byte)
  | noStart
  | noStop (run : Nat)
  | parity
  | tooLong
  | unfinished
  deriving DecidableEq, Repr

/-- R162: the bytes of a telegram by its first bytes, 6 and the length byte, once that byte is there. -/
def frameLength (bytes : List Byte) : Option Nat := bytes[3]?.map fun b => 6 + b.toNat

/-- R167: one byte more of a frame: a length above 24, the whole frame, or the frame to follow on. -/
def frameStep (bytes : List Byte) : Option FrameFinding :=
  match frameLength bytes with
  | some n => if 30 < n then some .tooLong else if bytes.length = n then some (.whole bytes) else none
  | none => none

/-- R161: the bits of a character in line order, `true` being recessive. -/
def charBits (c : BitVec 11) : List Bool := natBits 11 c.toNat

/-- R167: what one character more brings: the bytes to follow on with, or a finding. DESIGN CHOICE (log 43): a start bit read
recessive is a finding at the first character too. -/
def charStep (got : List Byte) (c : BitVec 11) : FrameFinding ⊕ List Byte :=
  match readChar c with
  | .noStart => .inl .noStart
  | .noStop => .inl (.noStop (dominantRun 0 (charBits c)))
  | .parity => .inl .parity
  | .good b =>
    match frameStep (got ++ [b]) with
    | some f => .inl f
    | none => .inr (got ++ [b])

/-- R167: the characters of a frame followed from its first one; `got` are the bytes had so far. A finding stands only at
the last character, where following ends. -/
def followFrame : List Byte → List (BitVec 11) → FrameFinding
  | _, [] => .unfinished
  | got, c :: cs =>
    match charStep got c with
    | .inl f => if cs.isEmpty then f else .unfinished
    | .inr got => followFrame got cs

/-- R163: a start bit read leads to RECEIVING from IDLE and GAP; RECEIVING is left by the frame. -/
def LinkState.follows : LinkState → Bool
  | .idle | .gap | .receiving => true
  | .unjoined | .settling | .sending | .emitting => false

/-- A new link state, the runs counted afresh from here. -/
def enterLink (st : LinkState) (s : State) : State :=
  s.onLink fun l => { l with state := st, recessive := 0, dominant := 0, lossAt := none }

/-- R167, R174: a frame discarded for an error that `count` counts. -/
def discardFrame (count : LinkCounts → LinkCounts) (s : State) : State := flagLinkError (countLink count s)

/-- The bytes of a whole frame before its CRC. -/
def frameBody (bytes : List Byte) : List Byte := bytes.take (bytes.length - 2)

/-- R167 steps 1 to 5, R195: a whole frame is judged. -/
def judgeFrame (bytes : List Byte) (s : State) : State :=
  if beBytes 2 (crc16 (frameBody bytes)).toNat ≠ bytes.drop (bytes.length - 2) then
    discardFrame (fun c => { c with crc := c.crc.bump }) s
  else
    match readTelegram (frameBody bytes) with
    | none => discardFrame (fun c => { c with form := c.form.bump }) s
    | some t =>
      if badOrigin s t || t.dest == s.loader.own || t.dest == 0 then enqueueRx t s else s

/-! ## Attempts -/

/-- The telegram in transmission. -/
def inTransmission (l : Link) : Option Slot := l.sending.bind (classHead l)

/-- The bits that the controller drives in an attempt (R164). -/
def drivenBits (l : Link) : List Bool :=
  match l.ltx with
  | .frame bits => bits
  | .recessive | .dominant => []

/-- R164: an attempt begins on the head of the lowest class. -/
def beginAttempt (c : TxClass) (sl : Slot) (s : State) : State :=
  s.onLink fun l =>
    { l with state := .sending, sending := some c, ltx := .frame (lineBits (frameBytes sl.tg)), recessive := 0,
             dominant := 0, lossAt := none }

/-- R164: the attempt succeeds. -/
def succeed (c : TxClass) (s : State) : State :=
  countLink (fun k => { k with sent := k.sent.bump })
    (enterLink .gap (s.onLink fun l => popHead { l with sending := none, ltx := .recessive } c))

/-- R165: arbitration is lost at bit `k`: the sender follows the winner's frame, the telegram keeps its place. -/
def loseArbitration (k : Nat) (readBack : List Bool) (s : State) : State :=
  countLink (fun k => { k with losses := k.losses.bump })
    (s.onLink fun l =>
      { endAttempt l with state := .receiving, recessive := 0, dominant := dominantRun l.dominant readBack,
                          lossAt := some k })

/-- R166: one attempt more on a slot. -/
def countAttempt (sl : Slot) : Slot := { sl with attempts := sl.attempts + 1 }

/-- R166: a bit error: counted, the telegram dropped at its eighth attempt with a LINK_FAULT raising event. -/
def takeBitError (c : TxClass) (sl : Slot) (s : State) : Fx :=
  let s := flagLinkError (countLink (fun k => { k with bitErrors := k.bitErrors.bump }) s)
  let s := s.onLink fun l => changeHead countAttempt l c
  if sl.attempts + 1 < 8 then quiet (enterLink .settling (s.onLink endAttempt))
  else
    (countLink (fun k => { k with retryDrops := k.retryDrops.bump })
      (enterLink .settling (s.onLink fun l => popHead { l with sending := none, ltx := .recessive } c)), [.raise .link])

/-! ## Bursts and idle runs -/

/-- R173: the link states in which dominant runs are counted. -/
def LinkState.hearsBursts : LinkState → Bool
  | .settling | .gap | .idle | .sending | .receiving => true
  | .unjoined | .emitting => false

/-- R173, R165: a stop burst is detected at the 16th bit time of a dominant run: the attempt or frame ends uncounted, an
arbitration loss of this very run (`setBack`) is set back, SETTLING is entered and the burst reported. -/
def detectBurst (setBack : Bool) (s : State) : Fx :=
  let s := countLink (fun k =>
    { k with burstsDetected := k.burstsDetected.bump, losses := if setBack then k.losses.unbump else k.losses }) s
  let s := s.onLink fun l =>
    { endAttempt l with state := .settling, recessive := 0, dominant := 16, lossAt := none }
  takeStopReport s

/-- R165: arbitration was lost in the dominant run that reached a burst with these bits, read since the loss. -/
def lossInRun (l : Link) (bits : List Bool) : Bool := l.lossAt.isSome && bits.all (!·)

/-- R165: arbitration was lost in the dominant run that the last of these characters ends with: it is the first character
of the frame, and dominant from the lost bit on. -/
def lossInChars (l : Link) (chars : List (BitVec 11)) : Bool :=
  match l.lossAt, chars with
  | some k, [c] => ((charBits c).drop k).all (!·)
  | _, _ => false

/-- R163: the recessive bit times that lead from a state to IDLE. -/
def idleAfter : LinkState → Option Nat
  | .settling => some 12
  | .gap => some 3
  | .unjoined | .idle | .sending | .receiving | .emitting => none

/-- R163, R173: the bits read in SETTLING or GAP complete the recessive run and hold nothing that acts before: no
16-bit dominant run in SETTLING, no start bit in GAP. -/
def runCompletes (l : Link) (bits : List Bool) : Bool :=
  match idleAfter l.state with
  | some n =>
    reachesRecessive n l.recessive bits
      && (if l.state = .gap then bits.all id
          else (List.range bits.length).all fun k => dominantRun l.dominant (bits.take (k + 1)) != 16)
  | none => false

end Sys2Proof.Machine
end

