-- ==== Sys2Proof/Machine/Image.lean ====
section
/-! DEFINITION. The configuration image: its fields (Table 42), the CRC, the fatal checks (R188) and the three passes of
CHECK (R189, R196). Logs 12 and 13. -/
namespace Sys2Proof.Machine

/-- A numeric field of the image: its offset and width in bytes, its signedness and its range. -/
structure Field where
  offset : Nat
  width : Nat
  signed : Bool
  low : Int
  high : Int
  deriving DecidableEq, Repr

/-- An unsigned field of one byte. -/
def byteField (offset low high : Nat) : Field := ⟨offset, 1, false, low, high⟩

/-- An unsigned field of two bytes. -/
def wordField (offset low high : Nat) : Field := ⟨offset, 2, false, low, high⟩

/-- The bytes of the image from an offset. -/
def imageBytes (offset width : Nat) (img : List Byte) : List Byte := (img.drop offset).take width

/-- The number at an offset, high byte first. -/
def imageNat (offset width : Nat) (img : List Byte) : Nat := beNat (imageBytes offset width img)

/-- The field as it stands in the image. -/
def Field.raw (f : Field) (img : List Byte) : Int :=
  if f.signed then beSigned (imageBytes f.offset f.width img) else imageNat f.offset f.width img

/-- R189, pass 2: the field set to the nearer limit. -/
def Field.value (f : Field) (img : List Byte) : Int := holdBetween f.low f.high (f.raw img)

/-- The field's value where it is not negative. -/
def Field.nat (f : Field) (img : List Byte) : Nat := (f.value img).toNat

/-- R189: the field was outside its range. -/
def Field.corrected (f : Field) (img : List Byte) : Bool := f.value img != f.raw img

/-- R189, R196, pass 1: a code, or the default code where it is undefined. -/
def codeOr {α : Type} (decode : Nat → Option α) (fallback : α) (n : Nat) : α := (decode n).getD fallback

/-! ## Fields with ranges -/

def fStatus : Field := byteField 3 5 100
def fPrimary : Field := byteField 4 0 31
def fQuarantine : Field := byteField 5 0 31
def fReply : Field := wordField 16 20 2000
def fRetry : Field := wordField 18 1 600
def fGate : Field := byteField 20 1 100
def fTransit : Field := wordField 21 1 600
def fAccept : Field := wordField 23 0 65535
def fTm : Field := byteField 32 1 100
def fVPresent : Field := wordField 33 0 65535
def fVEnd : Field := wordField 35 0 65535
def fNEnd : Field := byteField 37 1 255
def fIMin : Field := wordField 38 0 32767
def fNoResp : Field := wordField 40 1 600
def fTMax : Field := wordField 42 1 1440
def fRest : Field := wordField 44 1 3600
def fVSafe : Field := wordField 46 0 65535
def fRMax : Field := byteField 48 0 7
def fTKnee : Field := ⟨49, 2, true, -400, 1999⟩
def fTCut : Field := ⟨51, 2, true, -399, 2000⟩
def fPMax : Field := wordField 53 1 65535
def fDMin : Field := byteField 55 0 64
def fChannelZone (c : ChannelId) : Field := byteField (56 + 3 * c.val) 0 4
def fRLoad (c : ChannelId) : Field := wordField (57 + 3 * c.val) 100 65535
def fWindow (z : ZoneId) : Field := byteField (265 + 4 * z.val) 1 60
def fPersist (z : ZoneId) : Field := wordField (266 + 4 * z.val) 0 600
def fTestLine (l : Fin 4) : Field := byteField (280 + l.val) 0 12
def fTestTime : Field := byteField 284 1 120
def fRelease : Field := byteField 285 1 60
def fInterval : Field := byteField 286 0 168
def fListenStation (k : Nat) : Field := byteField (306 + 2 * k) 0 31
def fListenZone (k : Nat) : Field := byteField (307 + 2 * k) 0 4
def fStopHold : Field := byteField 318 1 60
def fChamberZone : Field := byteField 320 0 4
def fO2Run : Field := wordField 321 0 2498
def fO2Warn : Field := wordField 323 1 2499
def fO2Alarm : Field := wordField 325 2 2500
def fSettle : Field := wordField 327 1 600
def fPurge : Field := wordField 329 10 3600
def fStall : Field := wordField 331 100 10000
def fLabour : Field := wordField 333 1 10000
def fFeed : Field := byteField 335 1 120
def fWatermark : Field := byteField 336 1 32

/-! ## Point records (13.4) -/

/-- The offset of a point record. -/
def pointOffset (p : PointId) : Nat := 72 + 16 * p.val

/-- The point is one of the analogue points 1–8. -/
def isAnalogue (p : PointId) : Bool := p.val < 8

/-- 13.4: the kind codes of points 1–8 and of points 9–12. -/
def kindOfCode (analogue : Bool) : Nat → Option PointKind
  | 0 => some .disabled
  | 1 => some (if analogue then .heat else .flame)
  | 2 => some (if analogue then .oxygen else .spark)
  | 3 => if analogue then some .vapour else none
  | _ => none

/-- 13.4: the compare mode codes. -/
def compareOfCode : Nat → Option CompareMode
  | 0 => some .absolute | 1 => some .baseline | 2 => some .rate | _ => none

/-- 13.4: the edge codes. -/
def edgeOfCode : Nat → Option EdgeSelect
  | 0 => some .rising | 1 => some .falling | _ => none

/-- 13.4: the zone mode codes. -/
def zoneModeOfCode : Nat → Option ZoneMode
  | 0 => some .single | 1 => some .coincidence | _ => none

/-- Table 42: the bit rate codes. -/
def bitRateOfCode : Nat → Option BitRate
  | 0 => some .kbit62 | 1 => some .kbit125 | 2 => some .kbit250 | _ => none

/-- The kind of a point as pass 1 leaves it. -/
def imageKind (p : PointId) (img : List Byte) : PointKind :=
  codeOr (kindOfCode (isAnalogue p)) .disabled (imageNat (pointOffset p) 1 img)

/-- Table 20: a fault band field by the kind. -/
def bandField (k : PointKind) (offset : Nat) : Field :=
  match k with
  | .heat => ⟨offset, 2, true, -32768, 32767⟩
  | .oxygen => wordField offset 0 2500
  | .vapour | .disabled | .flame | .spark => wordField offset 0 65535

def fPointZone (p : PointId) : Field := byteField (pointOffset p + 1) 0 4
def fWarn (p : PointId) : Field :=
  if isAnalogue p then wordField (pointOffset p + 7) 0 65535 else wordField (pointOffset p + 7) 1 255
def fAlarm (p : PointId) : Field :=
  if isAnalogue p then wordField (pointOffset p + 9) 0 65535 else wordField (pointOffset p + 9) 1 255
def fHyst (p : PointId) : Field := wordField (pointOffset p + 11) 0 65535
def fSpan (p : PointId) : Field := byteField (pointOffset p + 13) 1 (if isAnalogue p then 60 else 10)

/-- The numeric fields of a point record. -/
def pointFields (p : PointId) (img : List Byte) : List Field :=
  let k := imageKind p img
  (if isAnalogue p then [bandField k (pointOffset p + 3), bandField k (pointOffset p + 5)] else [])
    ++ [fPointZone p, fWarn p, fAlarm p, fHyst p, fSpan p]

/-- A point's parameters after passes 1 and 2. -/
def imagePoint (img : List Byte) (p : PointId) : PointCfg :=
  let k := imageKind p img
  let modeCode := imageNat (pointOffset p + 2) 1 img
  { kind := k, zone := (fPointZone p).nat img,
    mode := if isAnalogue p then codeOr compareOfCode .absolute modeCode else .absolute,
    edge := if isAnalogue p then .rising else codeOr edgeOfCode .rising modeCode,
    low := if isAnalogue p then (bandField k (pointOffset p + 3)).value img else 0,
    high := if isAnalogue p then (bandField k (pointOffset p + 5)).value img else 0,
    warn := (fWarn p).nat img, alarm := (fAlarm p).nat img, hyst := (fHyst p).nat img, span := (fSpan p).nat img }

/-! ## Passes 1 and 2 -/

/-- The fields of the image that are numbers in a range, but for the two downstream fields. -/
def rangedFields (img : List Byte) : List Field :=
  [fStatus, fReply, fRetry, fGate, fTransit, fAccept, fTm, fVPresent, fVEnd, fNEnd, fIMin, fNoResp, fTMax, fRest, fVSafe,
   fRMax, fTKnee, fTCut, fPMax, fDMin, fTestTime, fRelease, fInterval, fStopHold, fChamberZone, fO2Run, fO2Warn, fO2Alarm,
   fSettle, fPurge, fStall, fLabour, fFeed, fWatermark]
    ++ allChannels.flatMap (fun c => [fChannelZone c, fRLoad c])
    ++ allPoints.flatMap (fun p => pointFields p img)
    ++ allZones.flatMap (fun z => [fWindow z, fPersist z])
    ++ (List.finRange 4).map fTestLine
    ++ (List.range 6).flatMap fun k => [fListenStation k, fListenZone k]

/-- R196: an undefined code at an offset. -/
def undefinedCode {α : Type} (decode : Nat → Option α) (offset : Nat) (img : List Byte) : Bool :=
  (decode (imageNat offset 1 img)).isNone

/-- R196: the level bytes of codes 3, 10 and 12 are not used. -/
def levelUsed (i : Fin 14) : Bool := i.val != 2 && i.val != 9 && i.val != 11

/-- R196, pass 1: an enumerated field other than the role holds an undefined code. -/
def anyUndefined (img : List Byte) : Bool :=
  undefinedCode bitRateOfCode 2 img
    || allPoints.any (fun p =>
      undefinedCode (kindOfCode (isAnalogue p)) (pointOffset p) img
        || (if isAnalogue p then undefinedCode compareOfCode (pointOffset p + 2) img
            else undefinedCode edgeOfCode (pointOffset p + 2) img))
    || allZones.any (fun z => undefinedCode zoneModeOfCode (264 + 4 * z.val) img)
    || (List.finRange 14).any (fun i => levelUsed i && undefinedCode Level.ofCode (288 + i.val) img)
    || (List.range 4).any fun h => undefinedCode Level.ofCode (302 + h) img

/-- R189: the role ignores both downstream fields. -/
def Role.endsLine : Role → Bool
  | .shredder | .quarantine => true
  | .intake | .discharge | .transfer | .unset => false

/-- R189, pass 2: a downstream field: 0 at the end of the line, and 0 when it equals the strap number. -/
def downstream (f : Field) (role : Role) (own : Nat) (img : List Byte) : Nat :=
  if Role.endsLine role then 0 else if f.nat img = own then 0 else f.nat img

/-- R189: a downstream field is corrected. -/
def downstreamCorrected (f : Field) (role : Role) (own : Nat) (img : List Byte) : Bool :=
  !Role.endsLine role && (f.corrected img || f.nat img == own)

/-- The level in force of a cause: fixed HIGH for codes 3 and 12, OFF for PEER_HAZARD until a peer level is reported
(R128), else the configured level. -/
def imageLevel (img : List Byte) (i : Fin 14) : Level :=
  if i.val = 2 ∨ i.val = 11 then .high
  else if i.val = 9 then .off
  else codeOr Level.ofCode .high (imageNat (288 + i.val) 1 img)

/-- The role of the image, where it is valid (R188). -/
def imageRole (img : List Byte) : Option Role :=
  match Role.ofCode (imageNat 1 1 img) with
  | some .unset => none
  | r => r

/-- R189: the configuration after passes 1 and 2. -/
def rangedConfig (role : Role) (own : Nat) (img : List Byte) : Config :=
  { role, bitRate := codeOr bitRateOfCode .kbit125 (imageNat 2 1 img), statusMs := fStatus.nat img * 10,
    primary := downstream fPrimary role own img, quarantine := downstream fQuarantine role own img,
    configId := imageNat 6 2 img,
    replyMs := fReply.nat img, retryMs := fRetry.nat img * 100, gateMs := fGate.nat img * 100,
    transitMs := fTransit.nat img * 1000, acceptVolts := fAccept.nat img,
    tm := fTm.nat img, vPresent := fVPresent.nat img, vEnd := fVEnd.nat img, nEnd := fNEnd.nat img,
    iMin := fIMin.nat img, noRespMs := fNoResp.nat img * 1000, maxMs := fTMax.nat img * 60000,
    restMs := fRest.nat img * 1000, vSafe := fVSafe.nat img, rMax := fRMax.nat img,
    tKnee := fTKnee.value img, tCut := fTCut.value img, pMax := fPMax.nat img, dMin := fDMin.nat img,
    channels := tabulate fun c => ⟨(fChannelZone c).nat img, (fRLoad c).nat img⟩,
    points := tabulate (imagePoint img),
    zones := tabulate fun z =>
      ⟨codeOr zoneModeOfCode .single (imageNat (264 + 4 * z.val) 1 img), (fWindow z).nat img * 1000,
       (fPersist z).nat img * 1000⟩,
    testLines := tabulate fun l => (fTestLine l).nat img,
    testMs := fTestTime.nat img * 1000, releaseMs := fRelease.nat img * 1000,
    intervalMs := fInterval.nat img * 3600000,
    levels := tabulate (imageLevel img),
    peerMap := tabulate fun h => codeOr Level.ofCode .high (imageNat (302 + h.val) 1 img),
    listen := (List.range 6).map fun k => ⟨(fListenStation k).nat img, (fListenZone k).nat img⟩,
    stopHoldMs := fStopHold.nat img * 1000,
    chamberZone := fChamberZone.nat img, o2Run := fO2Run.nat img, o2Warn := fO2Warn.nat img,
    o2Alarm := fO2Alarm.nat img, settleMs := fSettle.nat img * 1000, purgeMs := fPurge.nat img * 1000,
    stallMs := fStall.nat img, labourMs := fLabour.nat img, feedMs := fFeed.nat img * 1000,
    watermark := fWatermark.nat img }

/-- R189: passes 1 and 2 correct something. -/
def rangesCorrected (role : Role) (own : Nat) (img : List Byte) : Bool :=
  anyUndefined img || (rangedFields img).any (fun f => f.corrected img)
    || downstreamCorrected fPrimary role own img || downstreamCorrected fQuarantine role own img

/-! ## Pass 3 -/

/-- R79: T_cut above T_knee. -/
def orderTemps (c : Config) : Config := if c.tCut ≤ c.tKnee then { c with tCut := c.tKnee + 1 } else c

/-- R81: the point's thresholds or its fault band stand the wrong way round. -/
def misordered (c : PointCfg) : Bool := c.kind != .disabled && (c.alarm < c.warn || c.high < c.low)

/-- R81: such a point is made DISABLED. -/
def orderPoint (c : PointCfg) : PointCfg := if misordered c then { c with kind := .disabled } else c

/-- R81 for every point. -/
def orderPoints (c : Config) : Config := { c with points := tabulate fun p => orderPoint c.points[p] }

/-- R92: a lower-numbered line names the same point. -/
def lineRepeats (lines : Vector Nat 4) (l : Fin 4) : Bool :=
  lines[l] != 0 && (List.finRange 4).any fun k => k.val < l.val && lines[k] == lines[l]

/-- R92: the higher-numbered of two lines that name one point is unused. -/
def orderLines (c : Config) : Config :=
  { c with testLines := tabulate fun l => if lineRepeats c.testLines l then 0 else c.testLines[l] }

/-- R130: O2_run < O2_warn < O2_alarm. -/
def orderOxygen (c : Config) : Config :=
  let warn := if c.o2Warn ≤ c.o2Run then c.o2Run + 1 else c.o2Warn
  { c with o2Warn := warn, o2Alarm := if c.o2Alarm ≤ warn then warn + 1 else c.o2Alarm }

/-- R155: a listen entry naming the station's own number is unused. -/
def orderListen (own : Nat) (c : Config) : Config :=
  { c with listen := c.listen.map fun e => if e.station = own then ⟨0, 0⟩ else e }

/-- R189, pass 3. -/
def orderedConfig (own : Nat) (c : Config) : Config :=
  orderListen own (orderOxygen (orderLines (orderPoints (orderTemps c))))

/-- R188, R189, R196: the configuration in force of an accepted image, and whether CLAMPED is set. -/
def checkImage (role : Role) (own : Nat) (img : List Byte) : Config × Bool :=
  let c := rangedConfig role own img
  let c' := orderedConfig own c
  (c', rangesCorrected role own img || c' != c)

/-- R187: the CRC over bytes 0 to 509 stands in the last two. -/
def imageGood (bytes : List Byte) : Bool :=
  bytes.length == 512 && beBytes 2 (crc16 (bytes.take 510)).toNat == bytes.drop 510

/-- R188: the first fatal check that fails. -/
def fatalFinding (own : Nat) : Option (List Byte) → Option Finding
  | none => some .noImage
  | some img =>
    if own = 0 ∨ imageNat 0 1 img ≠ own then some .stationMismatch
    else if (imageRole img).isNone then some .badRole
    else none

/-- R193: the configuration of a FAULTED station. -/
def faultedConfig : Option (List Byte) → Config
  | none => Config.blank
  | some img =>
    { Config.blank with
      role := (imageRole img).getD .unset, bitRate := codeOr bitRateOfCode .kbit125 (imageNat 2 1 img),
      statusMs := fStatus.nat img * 10, configId := imageNat 6 2 img }

end Sys2Proof.Machine
end

