-- ==== Sys2Proof/Machine/ReportOps.lean ====
section
/-! DEFINITION. The service responder's operations (chapter 11): REPORT answers (Tables 33, 40 and 41), the counter
snapshot, taking a QUERY. Layout choices: logs 11, 12, 27, 31, 40, 41 and 44. -/
namespace Sys2Proof.Machine

/-! ## Field layouts (13.3) -/

/-- One flag or code as one byte. -/
def codeByte (n : Nat) : List Byte := [byteOf n]

/-- One flag, in bit 7 of its byte. -/
def flagByte (b : Bool) : List Byte := [flagBits [b]]

/-- A field that can be absent: a presence byte and its bytes, 0 where absent. -/
def optBytes {α : Type} (width : Nat) (f : α → List Byte) : Option α → List Byte
  | some a => 1 :: f a
  | none => List.replicate (1 + width) 0

/-- A timer as its remaining ms in 4 bytes, 0 where stopped. -/
def timerBytes (t : Timer) : List Byte := beBytes 4 (t.getD 0)

/-- A station clock value. -/
def clockBytes (c : Clock) : List Byte := beBytes 4 c.toNat

/-- A count: session before lifetime. -/
def countBytes (c : Count) : List Byte := beBytes 4 c.session.toNat ++ beBytes 4 c.lifetime.toNat

/-- Table 9, in list order. -/
def EntryState.code : EntryState → Nat
  | .waiting => 0 | .inChannel => 1 | .ready => 2 | .offered => 3 | .inTransit => 4 | .adrift => 5 | .feeding => 6

/-- Table 17, in list order. -/
def ChannelState.code : ChannelState → Nat
  | .empty => 0 | .connecting => 1 | .discharge => 2 | .held => 3 | .rest => 4 | .done => 5

/-- Table 20, in list order: points 1–8, then points 9–12. -/
def PointKind.code (analogue : Bool) : PointKind → Nat
  | .heat | .flame => 0
  | .oxygen | .spark => 1
  | .vapour => 2
  | .disabled => if analogue then 3 else 2

/-- Table 21, in list order. -/
def PointReport.code : PointReport → Nat
  | .disabled => 0 | .testing => 1 | .fault => 2 | .alarm => 3 | .warn => 4 | .normal => 5

/-- R82, in list order. -/
def PointLevel.code : PointLevel → Nat
  | .normal => 0 | .warn => 1 | .alarm => 2

/-- R92, in list order. -/
def TestResult.code : TestResult → Nat
  | .pass => 0 | .fail => 1 | .skipped => 2

/-- Table 23, in list order. -/
def ZoneStatus.code : ZoneStatus → Nat
  | .quiet => 0 | .pending => 1 | .confirmed => 2 | .fault => 3

/-- R100, in list order. -/
def ZoneMode.code : ZoneMode → Nat
  | .single => 0 | .coincidence => 1

/-- Table 22, in list order. -/
def Basis.code : Basis → Nat
  | .single => 0 | .coincidence => 1 | .persistence => 2

/-- Table 22: the window, running, lapsed or none. -/
def windowBytes : ZoneWindow → List Byte
  | .none => [0, 0]
  | .running _ => [1, 0]
  | .lapsed => [1, 1]

/-- Table 27, in list order. -/
def Freshness.code : Freshness → Nat
  | .fresh => 0 | .stale => 1 | .silent => 2

/-! ## Record items -/

/-- Table 7, the fields of a summary. -/
def summaryFields (m : Summary) : List Byte :=
  codeByte (Verdict.code m.verdict) ++ beBytes 4 m.energy ++ beBytes 4 m.charge ++ beBytes 2 m.restVolts
    ++ codeByte m.rebounds ++ signedBytes 2 m.peak ++ codeByte m.station ++ flagByte m.clipped ++ flagByte m.netIn

/-- A mark list: the count, then the marks packed as in the OFFER in five bytes. -/
def markListBytes (ms : List Mark) : List Byte := codeByte ms.length ++ (markBytes ms ++ List.replicate 5 0).take 5

/-- Table 6; the open expectation has no state, entry time, channel or refusal reason. -/
def entryFields (p : PackRecord) (state : Option EntryState) (entered : Option Clock) (channel : Option ChannelId)
    (refusal : Option Reason) : List Byte :=
  tokenBytes 0 p.token ++ codeByte (PackClass.code p.cls) ++ flagByte p.damaged ++ codeByte p.hops
    ++ optBytes 1 (fun s => codeByte (EntryState.code s)) state ++ optBytes 4 clockBytes entered
    ++ optBytes 1 (fun c => codeByte c.val) channel ++ optBytes 17 summaryFields p.summary
    ++ markListBytes p.marks ++ flagByte p.overflow ++ optBytes 1 (fun r => codeByte (Reason.code r)) refusal
    ++ flagByte p.orphan

/-- A record read through an item: its identifying prefix and its fields. -/
structure Record where
  head : List Byte
  body : List Byte
  deriving DecidableEq, Repr

/-- CUSTODY 0–15: the entry at a list position; 16: the open expectation, the offering station and the transit timer. -/
def custodyRecord (s : State) (index : Nat) : Option Record :=
  if index < 16 then
    s.custody.list[index]?.map fun e =>
      ⟨tokenBytes 0 e.pack.token, entryFields e.pack (some e.state) (some e.entered) e.channel e.refusal⟩
  else if index = 16 then
    s.handoff.expect.map fun x =>
      ⟨tokenBytes 0 x.pack.token,
       entryFields x.pack none none none none ++ codeByte x.offering ++ timerBytes s.handoff.transit⟩
  else none

/-- Table 27. -/
def peerFields (e : PeerEntry) : List Byte :=
  flagByte e.heard ++ codeByte (Role.code e.role) ++ optBytes 1 (fun p => codeByte (Phase.code p)) e.phase
    ++ codeByte (Hazard.rank e.hazard) ++ codeByte (Hazard.rank e.listened) ++ codeByte (Atmos.code e.atmos)
    ++ codeByte e.free ++ codeByte e.count
    ++ [flagBits [e.flags.pointAlarm, e.flags.zonePending, e.flags.discrepancy, e.flags.linkErrors]]
    ++ [flagBits [e.due, e.clamped]] ++ optBytes 1 codeByte e.seq ++ optBytes 2 (beBytes 2) e.period
    ++ optBytes 4 clockBytes e.lastHeard ++ codeByte (Freshness.code e.freshness) ++ timerBytes e.stale
    ++ timerBytes e.silent ++ beBytes 4 e.taken.toNat ++ beBytes 4 e.missed.toNat ++ beBytes 4 e.silences.toNat
    ++ beBytes 4 e.restarts.toNat

/-- PEER 1–31. -/
def peerRecord (s : State) (index : Nat) : Option Record :=
  (peerOfNumber index).map fun p => ⟨[], peerFields s.peers.entries[p]⟩

/-- POINT, in the order of Table 33. -/
def pointFieldBytes (analogue : Bool) (c : PointCfg) (p : Point) : List Byte :=
  codeByte (PointKind.code analogue c.kind) ++ codeByte c.zone ++ codeByte (PointReport.code p.reported)
    ++ codeByte (PointLevel.code p.level) ++ optBytes 2 (signedBytes 2) p.reading ++ optBytes 3 (signedBytes 3) p.compare
    ++ [flagBits [p.band, p.noBaseline, p.stuck, p.testFault]]
    ++ optBytes 1 (fun r => codeByte (TestResult.code r)) p.result ++ optBytes 4 clockBytes p.resultTime
    ++ countBytes p.counts.alarms ++ countBytes p.counts.faults ++ countBytes p.counts.passes
    ++ countBytes p.counts.fails ++ countBytes p.counts.aborts

/-- The point with a number 1–12. -/
def pointOfNumber (n : Nat) : Option PointId := if h : 1 ≤ n ∧ n ≤ 12 then some ⟨n - 1, by omega⟩ else none

/-- POINT 1–12. -/
def pointRecord (s : State) (index : Nat) : Option Record :=
  (pointOfNumber index).map fun p => ⟨[], pointFieldBytes (isAnalogue p) s.cfg.points[p] s.points[p]⟩

/-- The number of a point. -/
def pointNumber (p : PointId) : List Byte := codeByte (p.val + 1)

/-- Table 22; `persist` are the persistence timers of the members. -/
def zoneFields (z : Zone) (persist : List Timer) : List Byte :=
  codeByte (ZoneStatus.code z.status) ++ codeByte z.healthy ++ codeByte (ZoneMode.code z.mode)
    ++ optBytes 1 pointNumber z.heldPoint ++ optBytes 4 clockBytes z.heldTime ++ windowBytes z.window
    ++ optBytes 1 pointNumber z.confirming ++ optBytes 4 clockBytes z.confirmTime
    ++ optBytes 1 (fun b => codeByte (Basis.code b)) z.basis ++ persist.flatMap timerBytes
    ++ countBytes z.counts.confirmations ++ countBytes z.counts.pendings ++ countBytes z.counts.faults
    ++ countBytes z.counts.restoresTaken ++ countBytes z.counts.restoresRefused

/-- ZONE 1–4. DESIGN CHOICE (log 40): a zone whose P is 0, which keeps no timers (R107), still writes a stopped one for each
member. -/
def zoneRecord (s : State) (index : Nat) : Option Record :=
  (zoneOfNumber index).map fun z =>
    ⟨[], zoneFields s.zones.zones[z] ((membersOf s.cfg z).map fun p => s.zones.persist[p])⟩

/-- R59: the held reason, the first present hold condition, none outside HELD. -/
def heldReason (c : Channel) : Option Nat :=
  if c.state ≠ .held then none
  else if c.holdSensor then some 0 else if c.holdFlood then some 1 else if c.holdHazard then some 2 else none

/-- A channel's counts in their order (R66). -/
def channelCountList (k : ChannelCounts) : List Count :=
  [k.discharged, k.openCircuit, k.thermal, k.expired, k.stubborn, k.aborted, k.fire, k.rebounds]

/-- R68, R70: the power limit that a tool reads, for the latest temperature. -/
def reportedLimit (cfg : Config) (c : Channel) : Nat := powerLimit cfg.pMax cfg.tKnee cfg.tCut c.temp

/-- Table 16, the running figures of R78, the counts, and the power limit in mW. DESIGN CHOICE (log 31): the place of the
limit, which R68 has a tool see and no table lists. -/
def channelFields (cfg : Config) (c : Channel) : List Byte :=
  codeByte (ChannelState.code c.state) ++ optBytes 4 (tokenBytes 0) c.token
    ++ [flagBits [c.holdSensor, c.holdFlood, c.holdHazard]] ++ optBytes 1 codeByte (heldReason c)
    ++ codeByte (verdictCode c.verdict) ++ codeByte c.rebounds ++ codeByte c.endCount ++ beBytes 3 c.noResp
    ++ beBytes 4 c.spent ++ timerBytes c.rest ++ beBytes 2 c.lastRest ++ beBytes 2 c.duty ++ signedBytes 6 c.charge
    ++ signedBytes 7 c.energy ++ signedBytes 2 c.peak ++ beBytes 2 c.minVolts ++ [flagBits [c.clipped, c.netIn]]
    ++ beBytes 2 c.volts ++ signedBytes 2 c.current ++ signedBytes 2 c.temp ++ codeByte (if tempOk c.temp then 0 else 1)
    ++ beBytes 4 (energyRemoved c) ++ beBytes 4 (chargeRemoved c) ++ (channelCountList c.counts).flatMap countBytes
    ++ beBytes 4 (reportedLimit cfg c)

/-- The channel with a number 1–4. -/
def channelOfNumber (n : Nat) : Option ChannelId := if h : 1 ≤ n ∧ n ≤ 4 then some ⟨n - 1, by omega⟩ else none

/-- CHANNEL 1–4. -/
def channelRecord (s : State) (index : Nat) : Option Record :=
  (channelOfNumber index).map fun c =>
    let ch := s.channels[c]
    ⟨codeByte (ChannelState.code ch.state) ++ optTokenBytes ch.token, channelFields s.cfg ch⟩

/-- The latch of a cause; for ZONE_CONFIRMED the four zone latches. DESIGN CHOICE (log 41): a cause that is not latched
(R114) writes one byte of 0 here, with no presence byte. -/
def latchByte (e : Evaluator) (c : Cause) : Byte :=
  if c = .zoneConfirmed then flagBits e.zoneLatch.toList else flagBits [e.causes[Cause.index c].latch]

/-- CAUSE, in the order of R114; with code 1 both hazards. -/
def causeFields (e : Evaluator) (c : Cause) : List Byte :=
  let r := e.causes[Cause.index c]
  flagByte r.active ++ codeByte (Level.rank r.level) ++ [latchByte e c] ++ countBytes r.activations
    ++ optBytes 4 clockBytes r.last
    ++ (if c = .pointWarn then codeByte (Hazard.rank e.station) ++ codeByte (Hazard.rank e.line) else [])

/-- CAUSE 1–14. -/
def causeRecord (s : State) (index : Nat) : Option Record :=
  (Cause.ofCode index).map fun c => ⟨[], causeFields s.hazard c⟩

/-- CHAMBER, in the order of Table 33. DESIGN CHOICE (log 44): the two valve states are a set of one byte, and so are RUN and
FEED. -/
def chamberFields (s : State) : List Byte :=
  codeByte (Atmos.code s.chamber.state) ++ beBytes 2 (oxygenValue s.chamber.oxygen)
    ++ [flagBits [s.chamber.purgeOpen, s.chamber.floodOpen]] ++ timerBytes s.chamber.settle
    ++ timerBytes s.chamber.purge ++ flagByte s.chamber.overrun ++ [flagBits [s.rotor.run, s.feed.gate]]
    ++ optBytes 4 clockBytes s.rotor.period ++ flagByte s.rotor.upToSpeed ++ codeByte s.rotor.slow
    ++ timerBytes s.feed.timer

/-! ## Parts -/

/-- 13.3: the bytes of the body in one part. -/
def Record.room (r : Record) : Nat := 21 - r.head.length

/-- 13.3: the answer of a part, the prefix at its head; none beyond the last part. -/
def Record.part (r : Record) (part : Nat) : Option (List Byte) :=
  let bytes := (r.body.drop (part * r.room)).take r.room
  if bytes.isEmpty then none else some (r.head ++ bytes)

/-- The answer of a record item. -/
def recordAnswer (r : Option Record) (part : Nat) : Option (List Byte) := r.bind fun r => r.part part

/-! ## IDENTIFY, TALLY, TURN -/

/-- 13.3: a bank byte. -/
def bankByte (n : BankName) (count : Nat) : List Byte := codeByte ((if n = .b then 128 else 0) + count)

/-- The bank byte of the held bank. -/
def heldBankByte (t : Tally) : List Byte := bankByte (Tally.heldName t) (Tally.heldBank t).length

/-- Table 40, IDENTIFY. -/
def identifyAnswer (s : State) : List Byte :=
  beBytes 2 0x0B17 ++ beBytes 2 0x0040 ++ codeByte 0x01 ++ beBytes 2 s.cfg.configId
    ++ [flagBits [s.loader.clamped, s.tally.due]] ++ codeByte (Phase.code s.loader.phase)
    ++ codeByte (Role.code s.cfg.role) ++ heldBankByte s.tally ++ codeByte (Tally.fillingBank s.tally).length

/-- Table 41. -/
def tallyBytes (r : TallyRecord) : List Byte :=
  tokenBytes (PackClass.code r.cls) r.token
    ++ codeByte (Removal.code r.outcome * 64 + verdictCode r.verdict * 8 + r.damaged.toNat * 4) ++ beBytes 4 r.energy
    ++ codeByte (r.hops * 16 + r.overflow.toNat * 8 + r.marks) ++ beBytes 2 (r.peak.getD 0xFFFF) ++ clockBytes r.time
    ++ beBytes 3 r.dwell ++ [0]

/-- R184, TALLY: the record at a position of the held bank. -/
def tallyAnswer (s : State) (index : Nat) : Option (List Byte) :=
  (Tally.heldBank s.tally)[index]?.map fun r => heldBankByte s.tally ++ tallyBytes r

/-- R184: TURN's index is 0 or names the held bank. -/
def turnNamesHeld (t : Tally) (index : Nat) : Bool :=
  index == 0 || (index == 1 && Tally.heldName t == .a) || (index == 2 && Tally.heldName t == .b)

/-! ## The counter snapshot -/

/-- Both copies of a count. -/
def countPair (c : Count) : List (BitVec 32) := [c.session, c.lifetime]

/-- A 48-bit total in two counts, high part first. -/
def widePair (x : BitVec 48) : List (BitVec 32) := [BitVec.ofNat 32 (x.toNat / 2 ^ 32), BitVec.ofNat 32 x.toNat]

/-- R137: a time total, session before lifetime. -/
def timeCounts (t : TimeTotal) : List (BitVec 32) := t.session :: widePair t.lifetime

/-- Table 12 and the lifetime energy total. DESIGN CHOICE (log 27): shredded and removed apart, and no consumed count. -/
def custodySnapshot (c : Custody) : List (BitVec 32) :=
  let k := c.counts
  [k.intake, k.arrived, k.orphan, k.handed, k.lost, k.shredded, k.removed, k.refusalsSent, k.refusalsReceived,
    k.withdrawals, k.strayArrived, k.strayMissing, k.strayRemovals, k.overflows].flatMap countPair ++ widePair c.energy

/-- R98. -/
def pointSnapshot (p : Point) : List (BitVec 32) :=
  [p.counts.alarms, p.counts.faults, p.counts.passes, p.counts.fails, p.counts.aborts].flatMap countPair

/-- R112. -/
def zoneSnapshot (z : Zone) : List (BitVec 32) :=
  [z.counts.confirmations, z.counts.pendings, z.counts.faults, z.counts.restoresTaken,
    z.counts.restoresRefused].flatMap countPair

/-- R127. -/
def hazardSnapshot (e : Evaluator) : List (BitVec 32) :=
  e.causes.toList.flatMap (fun r => countPair r.activations) ++ countPair e.alarmsQueued ++ countPair e.restores

/-- R146 and the time totals of R137. -/
def shredderSnapshot (s : State) : List (BitVec 32) :=
  [s.chamber.degradedEntries, s.chamber.floods, s.rotor.starts, s.rotor.stalls, s.feed.opened, s.feed.timeouts,
    s.feed.returned].flatMap countPair
    ++ timeCounts s.chamber.purgeTime ++ timeCounts s.chamber.floodTime ++ timeCounts s.chamber.exposure

/-- R159. -/
def peerSnapshot (v : PeerView) : List (BitVec 32) :=
  v.entries.toList.flatMap (fun e => [e.taken, e.missed, e.silences, e.restarts])
    ++ countPair v.duplicates ++ countPair v.badOrigins

/-- Table 31. -/
def linkSnapshot (k : LinkCounts) : List (BitVec 32) :=
  [k.sent, k.received, k.losses, k.bitErrors, k.retryDrops, k.custodyDrops, k.displaced, k.replacements, k.framing,
    k.parity, k.crc, k.form, k.overruns, k.burstsEmitted, k.burstsDetected].flatMap countPair

/-- R183, 13.3: every count of the station in snapshot order. -/
def snapshotCounts (s : State) : List (BitVec 32) :=
  custodySnapshot s.custody
    ++ s.channels.toList.flatMap (fun c => (channelCountList c.counts).flatMap countPair)
    ++ s.points.toList.flatMap pointSnapshot ++ s.zones.zones.toList.flatMap zoneSnapshot
    ++ hazardSnapshot s.hazard ++ shredderSnapshot s ++ peerSnapshot s.peers ++ linkSnapshot s.link.counts
    ++ [s.tally.appended, s.tally.dropped, s.tally.turns, s.tally.discarded]
    ++ [s.responder.answered, s.responder.busy, s.responder.refused].flatMap countPair

/-- R183: the number of the last part. -/
def lastPart (n : Snapshot) : Nat := (n.counts.length + 4) / 5

/-- R183: a new snapshot. -/
def takeSnapshot (s : State) : State :=
  s.onResponder fun r =>
    let n := (r.number + 1) % 256
    { r with number := n,
             snapshot := some { number := n, clock := s.clock, entries := s.custody.list.length,
                                counts := snapshotCounts s } }

/-- Table 40, COUNTERS part 0. -/
def snapshotHeader (n : Snapshot) : List Byte :=
  codeByte n.number ++ clockBytes n.clock ++ codeByte n.entries ++ codeByte (lastPart n)

/-- Table 40, COUNTERS part 1 onward: up to five counts. -/
def snapshotPart (n : Snapshot) (part : Nat) : Option (List Byte) :=
  if 1 ≤ part ∧ part ≤ lastPart n then
    some (codeByte n.number ++ ((n.counts.drop (5 * (part - 1))).take 5).flatMap fun c => beBytes 4 c.toNat)
  else none

/-- R183: the answer of COUNTERS read from the snapshot held. -/
def countersAnswer (s : State) (index : Nat) : Option (List Byte) :=
  s.responder.snapshot.bind fun n => if index = 0 then some (snapshotHeader n) else snapshotPart n index

/-! ## Taking a QUERY -/

/-- A QUERY as the responder reads it. -/
structure Query where
  tool : Nat
  dest : Nat
  item : Nat
  index : Nat
  part : Nat
  deriving DecidableEq, Repr

/-- The QUERY at the head of the receive queue. -/
def headQuery (s : State) : Option Query :=
  match oldestTelegram s with
  | some ⟨origin, dest, .query item index part⟩ => some ⟨origin, dest, item, index, part⟩
  | _ => none

/-- R181: a REPORT in its slot, the answered count raised. -/
def sendReport (q : Query) (ok : Bool) (part : Nat) (answer : List Byte) (s : State) : State :=
  (s.onLink fun l => { l with report := some ⟨⟨s.loader.own, q.tool, .report q.item q.index ok part answer⟩, 0⟩ }).onResponder
    fun r => { r with answered := r.answered.bump }

/-- R181: a REPORT marked OK with the answer, or marked NONE without. -/
def replyWith (q : Query) (part : Nat) (answer : Option (List Byte)) (s : State) : State :=
  match answer with
  | some bytes => sendReport q true part bytes s
  | none => sendReport q false part [] s

/-- R181: the QUERY is taken: discarded when addressed to station 0, busy, refused, or acted on. -/
def takeQuery (q : Query) (act : Query → State → State) (s : State) : State :=
  let s := dropRx s
  if q.dest = 0 then s
  else if s.link.report.isSome then s.onResponder fun r => { r with busy := r.busy.bump }
  else if s.loader.phase = .faulted ∧ q.item ≠ 1 then s.onResponder fun r => { r with refused := r.refused.bump }
  else act q s

/-- R181: a command of one item acts when the oldest telegram is a QUERY that names it. -/
def serve (mine : Nat → Bool) (act : Query → State → State) (s : State) : State :=
  match headQuery s with
  | some q => if mine q.item then takeQuery q act s else s
  | none => s

/-- R182: a record item. -/
def answerRecord (read : State → Nat → Option Record) (q : Query) (s : State) : State :=
  replyWith q q.part (recordAnswer (read s q.index) q.part) s

/-- An item of one part: a part above 0 is beyond it (log 12). -/
def onePart (q : Query) (answer : Option (List Byte)) : Option (List Byte) := if q.part = 0 then answer else none

/-- R182, IDENTIFY. -/
def answerIdentify (q : Query) (s : State) : State := replyWith q q.part (onePart q (some (identifyAnswer s))) s

/-- R183, COUNTERS: part 0 takes the snapshot first. -/
def answerCounters (q : Query) (s : State) : State :=
  let s := if q.index = 0 then takeSnapshot s else s
  replyWith q 0 (countersAnswer s q.index) s

/-- R184, TALLY. -/
def answerTally (q : Query) (s : State) : State := replyWith q q.part (onePart q (tallyAnswer s q.index)) s

/-- R184, R182, TURN: made when its index is 0 or names the held bank; otherwise NONE, with the held bank (13.3) for an
index of Table 33 and with no answer for one above 2. -/
def answerTurn (q : Query) (s : State) : State :=
  if q.part = 0 ∧ turnNamesHeld s.tally q.index = true then
    let n := (Tally.heldBank s.tally).length
    let s := turnBanks s
    sendReport q true q.part (codeByte n ++ heldBankByte s.tally) s
  else sendReport q false q.part (if q.index ≤ 2 then heldBankByte s.tally else []) s

/-- R181: an undefined item is answered NONE with the item code as received. -/
def answerUndefined (q : Query) (s : State) : State := sendReport q false q.part [] s

end Sys2Proof.Machine
end

