-- ==== Sys2Proof/Machine/Cascade.lean ====
section
/-! DEFINITION. The hand-ons of one command: each notice taken by its owner, depth first, the scanner's looks last, until
none is left (log 4). -/
namespace Sys2Proof.Machine

/-- One notice handed to its owner. -/
def hand (n : Notice) (s : State) : Fx :=
  match n with
  | .fact f => takeFact f s
  | .reassess => reassess s
  | .raise l => raiseLatch l s
  | .zoneConfirmed z p => latchZone z p s
  | .zoneCleared z => unlatchZone z s
  | .channelsHazard => channelsTakeHazard s
  | .channelsFire z => channelsTakeFire z s
  | .assign => assignChannels s
  | .handoffHazard => handoffTakesHazard s
  | .search => candidateSearch s
  | .downstreamLost n b => takeDownstreamLost n b s
  | .peerNews n => takePeerNews n s
  | .scannerLook => scannerLook s
  | .roundFrom n => roundFrom n s
  | .roundAgain => roundAgain s
  | .zonePoint p st => takePointState p st s
  | .zoneRestore => restoreZones s
  | .chamberConfirmed z => chamberTakesConfirmed z s
  | .chamberCleared z => chamberTakesCleared z s
  | .chamberRestore => chamberTakesRestore s
  | .oxygen => workOxygen s
  | .rotorLook => rotorLook s
  | .feedLook => feedLook s

/-- One notice taken by its owner; FEED closes with the change that loses a feed condition (R145). -/
def take (n : Notice) (s : State) : Fx := (hand n s).closing s

/-- The notices that are taken at once. -/
def promptly (ns : List Notice) : List Notice := ns.filter fun n => !n.later

/-- The scanner's looks. -/
def afterwards (ns : List Notice) : List Notice := ns.filter Notice.later

/-- Every notice taken, those that a notice brings before those that wait, the scanner's looks when nothing else is
left. `fuel` bounds the number of notices (log 4). -/
def settle : Nat → List Notice → List Notice → State → State
  | 0, _, _, s => s
  | _ + 1, [], [], s => s
  | fuel + 1, n :: now, late, s =>
    settle fuel (promptly (take n s).2 ++ now) (late ++ afterwards (take n s).2) (take n s).1
  | fuel + 1, [], n :: late, s =>
    settle fuel (promptly (take n s).2) (late ++ afterwards (take n s).2) (take n s).1

/-- The number of notices one command may bring (log 4). -/
def settleFuel : Nat := 10000

/-- The state after an operation and every hand-on of it. -/
def finish (r : Fx) : State := settle settleFuel (promptly r.2) (afterwards r.2) r.1

/-- A command's answer, from the state `s` by its own effect `r`. -/
def done (s : State) (r : Fx) : Host.Outcome State Fault Refusal := .next (finish (r.closing s))

end Sys2Proof.Machine
end

