-- ==== Sys2Proof/Machine/StartupOps.lean ====
section
/-! DEFINITION. Resets, CHECK, join completion and RUN entry (chapter 12). -/
namespace Sys2Proof.Machine

/-! ## What pin reset keeps (R194) -/

/-- R24. -/
def CustodyCounts.keep (k : CustodyCounts) : CustodyCounts :=
  { intake := k.intake.keep, arrived := k.arrived.keep, orphan := k.orphan.keep, handed := k.handed.keep,
    lost := k.lost.keep, shredded := k.shredded.keep, removed := k.removed.keep, refusalsSent := k.refusalsSent.keep,
    refusalsReceived := k.refusalsReceived.keep, withdrawals := k.withdrawals.keep, strayArrived := k.strayArrived.keep,
    strayMissing := k.strayMissing.keep, strayRemovals := k.strayRemovals.keep, overflows := k.overflows.keep }

/-- R66. -/
def ChannelCounts.keep (k : ChannelCounts) : ChannelCounts :=
  { discharged := k.discharged.keep, openCircuit := k.openCircuit.keep, thermal := k.thermal.keep,
    expired := k.expired.keep, stubborn := k.stubborn.keep, aborted := k.aborted.keep, fire := k.fire.keep,
    rebounds := k.rebounds.keep }

/-- R98. -/
def PointCounts.keep (k : PointCounts) : PointCounts :=
  { alarms := k.alarms.keep, faults := k.faults.keep, passes := k.passes.keep, fails := k.fails.keep,
    aborts := k.aborts.keep }

/-- R112. -/
def ZoneCounts.keep (k : ZoneCounts) : ZoneCounts :=
  { confirmations := k.confirmations.keep, pendings := k.pendings.keep, faults := k.faults.keep,
    restoresTaken := k.restoresTaken.keep, restoresRefused := k.restoresRefused.keep }

/-- R174. -/
def LinkCounts.keep (k : LinkCounts) : LinkCounts :=
  { sent := k.sent.keep, received := k.received.keep, losses := k.losses.keep, bitErrors := k.bitErrors.keep,
    retryDrops := k.retryDrops.keep, custodyDrops := k.custodyDrops.keep, displaced := k.displaced.keep,
    replacements := k.replacements.keep, framing := k.framing.keep, parity := k.parity.keep, crc := k.crc.keep,
    form := k.form.keep, overruns := k.overruns.keep, burstsEmitted := k.burstsEmitted.keep,
    burstsDetected := k.burstsDetected.keep }

/-- R128: the causes after pin reset. -/
def keepCauses (old : Vector CauseRecord 14) : Vector CauseRecord 14 :=
  tabulate fun i => { Evaluator.reset.causes[i] with activations := old[i].activations.keep }

/-- R194: a pin reset: every block at its reset values, held in reset; the tally banks, the lifetime counts and totals
kept, and the levels outside the part as they are. -/
def pinResetState (s : State) : State :=
  { State.reset with
    pending := s.pending, pins := s.pins, tally := s.tally,
    custody := { Custody.reset with counts := CustodyCounts.keep s.custody.counts, energy := s.custody.energy },
    channels := tabulate fun c => { Channel.reset with counts := ChannelCounts.keep s.channels[c].counts },
    points := tabulate fun p => { Point.reset with counts := PointCounts.keep s.points[p].counts },
    zones := { ZoneLogic.reset with
      zones := tabulate fun z => { Zone.reset with counts := ZoneCounts.keep s.zones.zones[z].counts } },
    hazard := { Evaluator.reset with
      causes := keepCauses s.hazard.causes, alarmsQueued := s.hazard.alarmsQueued.keep,
      restores := s.hazard.restores.keep },
    chamber := { Chamber.reset with
      purgeTime := s.chamber.purgeTime.keep, floodTime := s.chamber.floodTime.keep,
      exposure := s.chamber.exposure.keep, degradedEntries := s.chamber.degradedEntries.keep,
      floods := s.chamber.floods.keep },
    rotor := { Rotor.reset with starts := s.rotor.starts.keep, stalls := s.rotor.stalls.keep },
    feed := { Feed.reset with
      opened := s.feed.opened.keep, timeouts := s.feed.timeouts.keep, returned := s.feed.returned.keep },
    peers := { PeerView.reset with duplicates := s.peers.duplicates.keep, badOrigins := s.peers.badOrigins.keep },
    link := { Link.reset with counts := LinkCounts.keep s.link.counts },
    responder := { Responder.reset with
      answered := s.responder.answered.keep, busy := s.responder.busy.keep, refused := s.responder.refused.keep } }

/-- R186: a power-on reset: every block at its reset values, held in reset. -/
def powerResetState (s : State) : State := { State.reset with pending := s.pending, pins := s.pins }

/-- R186: the release of a reset: the straps are read at their filtered levels (R1). -/
def releaseReset (s : State) : State :=
  (s.onLoader fun l =>
    { l with held := false, phase := .load, own := (levelsOf s.pins.straps).toNat, attempts := 0, image := none, finding := none,
             clamped := false }).onClock fun _ => 0

/-! ## CHECK -/

/-- R163: the controller starts in UNJOINED. -/
def startLink (on : Bool) (s : State) : State := enterLink .unjoined (s.onLink fun l => { l with on := on })

/-- R193: FAULTED is entered; a strap number of 0 does not join. -/
def enterFaulted (f : Finding) (s : State) : State :=
  startLink (s.loader.own != 0)
    ((s.onLoader fun l => { l with phase := .faulted, finding := some f }).onCfg fun _ => faultedConfig s.loader.image)

/-- R99: the points that CHECK found or made DISABLED report it. -/
def disablePoints (cfg : Config) (s : State) : State :=
  s.onPoints fun ps => tabulate fun p =>
    if cfg.points[p].kind = .disabled then { ps[p] with reported := .disabled } else ps[p]

/-- R113: the healthy count is the number of members, the effective mode the configured one. -/
def setZones (cfg : Config) (s : State) : State :=
  s.onZones fun k =>
    { k with zones := tabulate fun z =>
        { k.zones[z] with healthy := (membersOf cfg z).length, mode := cfg.zones[z].mode } }

/-- R114, R128: the levels in force. -/
def setLevels (cfg : Config) (s : State) : State :=
  s.onHazard fun h => { h with causes := tabulate fun i => { h.causes[i] with level := cfg.levels[i] } }

/-- R189, R190: an accepted image: the configuration in force, and JOIN entered. -/
def acceptImage (role : Role) (img : List Byte) (s : State) : State :=
  let r := checkImage role s.loader.own img
  let s := (s.onCfg fun _ => r.1).onLoader fun l => { l with phase := .join, clamped := r.2 }
  startLink true (setLevels r.1 (setZones r.1 (disablePoints r.1 s)))

/-- R188: CHECK. -/
def checkPhase (s : State) : State :=
  match fatalFinding s.loader.own s.loader.image, s.loader.image.bind imageRole, s.loader.image with
  | none, some role, some img => acceptImage role img s
  | some f, _, _ => enterFaulted f s
  | none, _, _ => enterFaulted .badRole s

/-- R187: what the SPI pins do in one read attempt. -/
def readSignals : List SpiSignal := [.csn false, .sent 0x03, .sent 0x00, .sent 0x00, .clockedIn 512, .csn true]

/-- R187: one read of the image is made and judged. -/
def judgeRead (bytes : List Byte) (s : State) : State :=
  let s := s.onLoader fun l => { l with attempts := l.attempts + 1, spi := readSignals }
  if imageGood bytes then checkPhase (s.onLoader fun l => { l with phase := .check, image := some bytes })
  else if s.loader.attempts < 3 then s
  else checkPhase (s.onLoader fun l => { l with phase := .check })

/-! ## Join completion -/

/-- R190, R83: the first scan of the analogue points, at TEST entry; before RUN no state is passed on (R91). -/
def firstScan (readings : Vector Int 8) (s : State) : State :=
  (forEach (fun (a : AnalogueId) (s : State) =>
    if s.cfg.points[analoguePoint a].kind = .disabled then quiet s else scanPoint (analoguePoint a) readings[a] s)
    (List.finRange 8) s).1

/-- R190: TEST is entered: the first scan is made, the window chains start and the start-up round begins. -/
def enterTest (readings : Vector Int 8) (s : State) : Fx :=
  beginRound true (beginWindows (firstScan readings (s.onLoader fun l => { l with phase := .test })))

/-- R163, R171, R190: join completion: IDLE, the first STATUS, the status timer, and TEST from JOIN. -/
def completeJoin (readings : Vector Int 8) (s : State) : Fx :=
  let s := statusTick (enterLink .idle s)
  if s.loader.phase = .join then enterTest readings s else quiet s

/-! ## RUN entry (R191, Table 36) -/

/-- R13: an orphan entry's record. -/
def orphanRecord (own seq : Nat) : PackRecord :=
  { token := ⟨own, 8388608 + seq⟩, cls := .unknown, damaged := false, hops := 0, summary := none, marks := [],
    overflow := false, orphan := true }

/-- R6, R13: the orphan sequence after an allocation, and the orphan count. -/
def spendOrphan (seq : Nat) (s : State) : State :=
  countCustody (fun c => { c with orphan := c.orphan.bump }) (s.onCustody fun c => { c with orphanSeq := nextOrphan seq })

/-- A new entry: nothing assigned, refused or targeted. -/
def newEntry (p : PackRecord) (state : EntryState) (clock : Clock) : Entry :=
  { pack := p, state, entered := clock, channel := none, refusal := none, target := 0, adrift := none, restart := false }

/-- R13: an orphan entry is appended. -/
def appendOrphan (state : EntryState) (channel : Option ChannelId) (s : State) : State :=
  let seq := allocOrphan s
  spendOrphan seq (appendEntry { newEntry (orphanRecord s.loader.own seq) state s.clock with channel } s)

/-- R14: a channel whose CONN is asserted at RUN entry yields an orphan and proceeds from CONNECTING. -/
def orphanOnChannel (c : ChannelId) (s : State) : Fx :=
  if s.pins.conn[c].level then
    let t := (orphanRecord s.loader.own (allocOrphan s)).token
    let r := connectCheck c (changeChannel c (takeToken t) (appendOrphan .inChannel (some c) s))
    (r.1, .raise .custody :: r.2)
  else quiet s

/-- R14: the orphans of RUN entry, at a DISCHARGE station. -/
def orphansAtRunEntry (s : State) : Fx :=
  if s.cfg.role = .discharge then forEach orphanOnChannel allChannels s else quiet s

/-- R91, R98, R115: the scanner passes every point's state; those in ALARM are ALARM events. -/
def passAllPoints (s : State) : State :=
  let s := s.onPoints fun ps => tabulate fun p =>
    if ps[p].reported = .alarm then { ps[p] with counts := countReport .alarm ps[p].counts } else ps[p]
  let s := s.onHazard fun h =>
    { h with facts := { h.facts with points := tabulate fun p => some s.points[p].reported } }
  if s.points.toList.any (·.reported == .alarm) then flagPointAlarm s else s

/-- R85: the baselines captured and the reported states derived afresh, still in BASELINE. -/
def finishBaseline (s : State) : State :=
  (forEach (fun p => refreshPoint p) allPoints (captureBaselines s)).1

/-- R93: the test interval timer starts where the interval is 1 h or more. -/
def startInterval (s : State) : State :=
  s.onScanner fun k => { k with intervalTimer := if 3600000 ≤ s.cfg.intervalMs then some s.cfg.intervalMs else none }

/-- R157: the grace timer starts. -/
def startGrace (s : State) : State := s.onPeers fun v => { v with grace := some (4 * s.cfg.statusMs) }

/-- R190: the phase becomes RUN; R53: the converters' readings present at that moment. -/
def beginRun (volts : Vector Nat 4) (s : State) : State :=
  (s.onLoader fun l => { l with phase := .run, baselineTimer := none }).onPins fun p =>
    { p with vsns := volts.map holdVolts }

/-- R191, Table 36: every block takes RUN entry. DESIGN CHOICE (log 38): the orphans of R14 come before any cause becomes
active, so each gains the mark of every cause that becomes active here (R122). DESIGN CHOICE (log 47): the evaluator takes the
point and peer facts first, and what the orphans, the zones and the chamber report each on its own after them. -/
def enterRun (volts : Vector Nat 4) (s : State) : Fx :=
  let s := startGrace (startInterval (beginRun volts s))
  let r := (orphansAtRunEntry s).after passAllPoints
  let r := (r.andThen zonesAtRunEntry).andThen reassess
  let r := (r.andThen (forEach alarmAtRunEntry allPoints)).andThen chamberAtRunEntry
  (r.after testWatermark).tell [.rotorLook, .feedLook, .search]

end Sys2Proof.Machine
end

