-- ==== Sys2Proof/Machine/Startup.lean ====
section
/-! DEFINITION. The meanings of the resets and of the start-up commands (chapter 12). A command whose event is not there
changes nothing (log 8). -/
namespace Sys2Proof.Machine

/-- What a command answers. -/
abbrev Answer := Host.Outcome State Fault Refusal

/-- POWER_ON_RESET (R186, R194). -/
def execPowerOnReset (s : State) : Answer := .next (powerResetState s)

/-- PIN_RESET (R1, R186, R194): a low level on RSTn, two low samples of which have been taken. -/
def execPinReset (s : State) : Answer :=
  .next (pinResetState (s.onPins fun p => { p with rstn := p.rstn.run [false, false] }))

/-- RESET_RELEASE (R1, R186): the supply is established and RSTn is high. -/
def execResetRelease (samples : ReleaseSamples) (s : State) : Answer :=
  let s := s.onPins fun p => { p with rstn := p.rstn.run samples.rstn, straps := runGroup p.straps samples.straps }
  .next (if s.loader.held = true ∧ s.pins.rstn.level = true then releaseReset s else s)

/-- IMAGE_READ_ATTEMPT (R187, R188). -/
def execImageReadAttempt (bytes : List Byte) (s : State) : Answer :=
  .next (if s.loader.held = false ∧ s.loader.phase = .load then judgeRead bytes s else s)

/-- JOIN_COMPLETION (R163, R171, R190). -/
def execJoinCompletion (bits : List Bool) (readings : Vector Int 8) (s : State) : Answer :=
  if s.link.on = true ∧ s.link.state = .unjoined ∧ reachesRecessive 12 s.link.recessive bits = true then
    done s (completeJoin readings s)
  else .next s

/-- BASELINE_END (R85, R190, R191). -/
def execBaselineEnd (volts : Vector Nat 4) (s : State) : Answer :=
  if s.loader.phase = .baseline ∧ s.loader.baselineTimer = some 0 then done s (enterRun volts (finishBaseline s))
  else .next s

end Sys2Proof.Machine
end

