-- ==== Sys2Proof/Machine/Custody.lean ====
section
/-! DEFINITION. The meanings of the commands of the local inputs ENTRY, REMOVE, THROAT and RESTORE (chapters 1 and 7). -/
namespace Sys2Proof.Machine

/-! ## ENTRY -/

/-- R12: the state of an arrival or an orphan by role. -/
def entryStateOf (role : Role) : EntryState := if role = .discharge then .waiting else .ready

/-- R29, R52, R142: who looks at a new entry. -/
def entryCame (role : Role) : List Notice := if role = .discharge then [.assign] else [.search, .feedLook]

/-- R12, R39: an arrival. -/
def arrive (x : Expectation) (s : State) : Fx :=
  let s := appendEntry (newEntry x.pack (entryStateOf s.cfg.role) s.clock) (closeExpectation s)
  let s := countCustody (fun c => { c with arrived := c.arrived.bump }) s
  (queueCustody x.offering (.arrived x.pack.token) s).tell (entryCame s.cfg.role)

/-- R11: the record of a new intake entry. -/
def intakeRecord (own serial : Nat) (cls : BitVec 3) (dmg : Bool) : PackRecord :=
  { token := ⟨own, serial⟩, cls := PackClass.ofPins cls, damaged := dmg, hops := 0, summary := none, marks := [],
    overflow := false, orphan := false }

/-- R4, R11: a new intake entry, with the class and the damaged flag at the filtered levels of the pins. -/
def takeIn (s : State) : Fx :=
  let n := allocIntake s
  let p := intakeRecord s.loader.own n (levelsOf s.pins.cls) s.pins.dmg.level
  let s := appendEntry (newEntry p .ready s.clock) s
  let s := s.onCustody fun c => { c with nextSerial := nextIntake n }
  (countCustody (fun c => { c with intake := c.intake.bump }) s, [.search])

/-- R13: an orphan at the ENTRY rise. -/
def takeOrphan (s : State) : Fx :=
  (appendOrphan (entryStateOf s.cfg.role) none s, .raise .custody :: entryCame s.cfg.role)

/-- R10: an ENTRY rise at a full station. -/
def overflowEntry (s : State) : Fx :=
  (countCustody (fun c => { c with overflows := c.overflows.bump }) s, [.raise .custody])

/-- R10, Table 10: an ENTRY rise in RUN. -/
def takeEntry (s : State) : Fx :=
  match s.handoff.expect with
  | some x => arrive x s
  | none =>
    if stationFull s then overflowEntry s
    else if s.cfg.role = .intake then takeIn s
    else takeOrphan s

/-- ENTRY_RISE (R1, R4, R10). -/
def execEntryRise (samples : List Bool) (cls : List (BitVec 3)) (dmg : List Bool) (s : State) : Answer :=
  let rises := s.pins.entry.rises samples
  let s := s.onPins fun p =>
    { p with entry := p.entry.run samples, cls := runGroup p.cls cls, dmg := p.dmg.run dmg }
  if rises = true ∧ s.running then done s (takeEntry s) else .next s

/-! ## REMOVE -/

/-- R20: the candidate for REMOVE. -/
def removalCandidate (s : State) : Option Entry :=
  if s.cfg.role = .shredder then oldest s fun e => e.state == .ready && !eligible e.pack
  else oldest s fun e => e.state == .waiting || e.state == .ready

/-- R22: an entry leaves by a terminal removal: gone from the list, its count raised, its record passed. -/
def retire (e : Entry) (outcome : Removal) (peak : Option Nat) (count : CustodyCounts → CustodyCounts) (s : State) :
    State :=
  let s := countCustody count (removeEntry e.pack.token s)
  appendRecord (tallyRecord e.pack e.entered outcome peak s) s

/-- R20: a REMOVE rise in RUN. -/
def takeRemove (s : State) : Fx :=
  match removalCandidate s with
  | some e => (retire e .removed none (fun c => { c with removed := c.removed.bump }) s, entryLeft)
  | none => quiet (countCustody (fun c => { c with strayRemovals := c.strayRemovals.bump }) s)

/-- REMOVE_RISE (R1, R20). -/
def execRemoveRise (samples : List Bool) (s : State) : Answer :=
  let rises := s.pins.remove.rises samples
  let s := s.onPins fun p => { p with remove := p.remove.run samples }
  if rises = true ∧ s.running then done s (takeRemove s) else .next s

/-! ## THROAT -/

/-- R21, case 1 or 2: an entry is shredded. -/
def shred (e : Entry) (peak : Option Nat) (s : State) : Fx :=
  (retire e .shredded peak (fun c => { c with shredded := c.shredded.bump }) s, entryLeft)

/-- R21, case 3: an orphan created and consumed in one event. -/
def shredOrphan (s : State) : Fx :=
  let seq := allocOrphan s
  let p := orphanRecord s.loader.own seq
  let s := countCustody (fun c => { c with shredded := c.shredded.bump }) (spendOrphan seq s)
  (appendRecord (tallyRecord p s.clock .orphanShredded none s) s, [.raise .custody])

/-- R21, R143: a THROAT pulse at a SHREDDER in RUN. -/
def takeThroat (s : State) : Fx :=
  match feedingEntry s with
  | some e => shred e s.feed.peak (closeFeed s)
  | none =>
    match feedCandidate s with
    | some e => shred e (some (oxygenValue s.chamber.oxygen)) s
    | none => shredOrphan s

/-- THROAT_PULSE (R1, R21). -/
def execThroatPulse (samples : List Bool) (s : State) : Answer :=
  let rises := s.pins.throat.rises samples
  let s := s.onPins fun p => { p with throat := p.throat.run samples }
  if rises = true ∧ chamberActs s then done s (takeThroat s) else .next s

/-! ## RESTORE -/

/-- R123: the latches the restore key clears at the evaluator. -/
def clearLatches (s : State) : State :=
  let cool := allCool s
  let s := if cool then setLatch .thermal false s else s
  setLatch .linkFault false (setLatch .custodyDiscrepancy false (setLatch .rotorStall false s))

/-- R123: a restore event. -/
def takeRestore (s : State) : Fx :=
  ((clearLatches s).onHazard fun h => { h with restores := h.restores.bump },
    [.reassess, .zoneRestore] ++ (if s.cfg.role = .shredder then [.chamberRestore] else []))

/-- RESTORE_RISE (R1, R123). -/
def execRestoreRise (samples : List Bool) (s : State) : Answer :=
  let rises := s.pins.restore.rises samples
  let s := s.onPins fun p => { p with restore := p.restore.run samples }
  if rises = true ∧ s.running then done s (takeRestore s) else .next s

end Sys2Proof.Machine
end

