-- ==== Sys2Proof/Machine/Channels.lean ====
section
/-! DEFINITION. The meanings of the discharge channel commands (chapters 3 and 4). -/
namespace Sys2Proof.Machine

/-- R1: a CONN input takes its samples. -/
def sampleConn (c : ChannelId) (samples : List Bool) (s : State) : State :=
  s.onPins fun p => { p with conn := modifyAt p.conn c fun f => f.run samples }

/-- CONN_RISE (R1, R53). -/
def execConnRise (c : ChannelId) (samples : List Bool) (volts : Nat) (s : State) : Answer :=
  let rises := s.pins.conn[c].rises samples
  let s := (sampleConn c samples s).onPins fun p => { p with vsns := p.vsns.set c (holdVolts volts) }
  if rises = true ∧ channelsAct s ∧ s.channels[c].state = .connecting then done s (connectCheck c s) else .next s

/-- CONN_FALL (R1, R62, R65). -/
def execConnFall (c : ChannelId) (samples : List Bool) (s : State) : Answer :=
  let falls := s.pins.conn[c].falls samples
  let s := sampleConn c samples s
  if falls = true ∧ channelsAct s then done s (disconnect c s) else .next s

/-- MEASUREMENT_SAMPLE (R51, R68). -/
def execMeasurementSample (c : ChannelId) (volts : Nat) (current temp : Int) (s : State) : Answer :=
  if channelsAct s then done s (takeSample c (holdVolts volts) (holdCurrent current) (holdTemp temp) s) else .next s

/-- REST_TIMER_EXPIRY (R61). -/
def execRestTimerExpiry (c : ChannelId) (s : State) : Answer :=
  if channelsAct s ∧ s.channels[c].state = .rest ∧ s.channels[c].rest = some 0 then done s (judgeRest c s)
  else .next s

/-- DISCHARGE_TIME_EXPIRY (R60). -/
def execDischargeTimeExpiry (c : ChannelId) (s : State) : Answer :=
  if channelsAct s ∧ (s.channels[c].state = .discharge ∨ s.channels[c].state = .held)
      ∧ s.cfg.maxMs ≤ s.channels[c].spent then
    done s (setVerdict c .expired s)
  else .next s

end Sys2Proof.Machine
end

