-- ==== Sys2Proof/Machine/Points.lean ====
section
/-! DEFINITION. The meanings of the detector point, zone and self-test commands (chapters 5 and 6). -/
namespace Sys2Proof.Machine

/-- POINT_SCAN (R83 to R87). -/
def execPointScan (a : AnalogueId) (reading : Int) (s : State) : Answer :=
  if Phase.scans s.loader.phase = true ∧ s.cfg.points[analoguePoint a].kind ≠ .disabled then
    done s (scanPoint (analoguePoint a) reading s)
  else .next s

/-- PULSE_EDGE (R1, R88). -/
def execPulseEdge (q : PulseId) (samples : List Bool) (s : State) : Answer :=
  let p := pulsePoint q
  let f := s.pins.pulse[q]
  let s := s.onPins fun k => { k with pulse := modifyAt k.pulse q fun f => f.run samples }
  .next (if Phase.scans s.loader.phase = true ∧ s.cfg.points[p].kind ≠ .disabled then
    changePoint p (countEdges s.cfg.points[p] f samples) s else s)

/-- PULSE_WINDOW_END (R89, R90). -/
def execPulseWindowEnd (q : PulseId) (s : State) : Answer :=
  if Phase.scans s.loader.phase = true ∧ s.cfg.points[pulsePoint q].kind ≠ .disabled
      ∧ s.points[pulsePoint q].window = some 0 then
    done s (endWindow q s)
  else .next s

/-- The point whose lamp is on when the test timer has run out. -/
def lampPoint (s : State) : Option PointId :=
  match s.scanner.round, s.scanner.testTimer with
  | some r, some 0 => if r.part = .lamp then some r.point else none
  | _, _ => none

/-- TEST_TIMER_EXPIRY (R95). -/
def execTestTimerExpiry (s : State) : Answer :=
  match lampPoint s with
  | some p => done s (failTest p s)
  | none => .next s

/-- RELEASE_END (R97). -/
def execReleaseEnd (s : State) : Answer :=
  match s.scanner.round, s.scanner.releaseTimer with
  | some ⟨_, p, .release aborted⟩, some 0 => done s (endRelease p aborted s)
  | _, _ => .next s

/-- TEST_INTERVAL_EXPIRY (R93). -/
def execTestIntervalExpiry (s : State) : Answer :=
  if s.running ∧ s.scanner.intervalTimer = some 0 ∧ s.scanner.round = none then done s (beginRound false s)
  else .next s

/-- ZONE_WINDOW_EXPIRY (R105). -/
def execZoneWindowExpiry (z : ZoneId) (s : State) : Answer :=
  if s.running ∧ s.zones.zones[z].status = .pending ∧ s.zones.zones[z].window = .running 0 then
    done s (expireWindow z s)
  else .next s

/-- PERSISTENCE_EXPIRY (R107). -/
def execPersistenceExpiry (p : PointId) (s : State) : Answer :=
  if s.running ∧ s.zones.persist[p] = some 0 then done s (expirePersistence p s) else .next s

end Sys2Proof.Machine
end

