-- ==== Sys2Proof/Machine/Handoff.lean ====
section
/-! DEFINITION. The meanings of the hand-off commands (chapter 2): the timers and the custody telegrams. A telegram
command acts when the oldest telegram of the receive queue is of its kind (R168). -/
namespace Sys2Proof.Machine

/-! ## Timers -/

/-- R36, R45: the reply timer expires. -/
def expireReply (o : Offer) (s : State) : Fx :=
  if offersOffered s o then quiet (startRetry (returnOffered o.token (clearOffer s)))
  else quiet (startRetry (clearOffer s))

/-- REPLY_TIMER_EXPIRY (R36). -/
def execReplyTimerExpiry (s : State) : Answer :=
  match s.handoff.offer, s.handoff.reply with
  | some o, some 0 => if s.running then done s (expireReply o s) else .next s
  | _, _ => .next s

/-- RETRY_TIMER_EXPIRY (R29). -/
def execRetryTimerExpiry (s : State) : Answer :=
  if s.running ∧ s.handoff.retry = some 0 then
    done s (candidateSearch (s.onHandoff fun h => { h with retry := none }))
  else .next s

/-- EXIT_GATE_EXPIRY (R34). -/
def execExitGateExpiry (s : State) : Answer :=
  .next (if s.handoff.gate = some 0 then s.onHandoff fun h => { h with exitGate := false, gate := none } else s)

/-- ADRIFT_EXPIRY (R46). -/
def execAdriftExpiry (t : Token) (s : State) : Answer :=
  match findEntry s t with
  | some e => if s.running ∧ e.state = .adrift ∧ e.adrift = some 0 then done s (loseEntry e s) else .next s
  | none => .next s

/-- R40: the transit timer expires. -/
def expireTransit (x : Expectation) (s : State) : Fx :=
  let r := queueCustody x.offering (.missing x.pack.token) (closeExpectation s)
  (r.1, .raise .custody :: r.2)

/-- TRANSIT_TIMER_EXPIRY (R40). -/
def execTransitTimerExpiry (s : State) : Answer :=
  match s.handoff.expect, s.handoff.transit with
  | some x, some 0 => if s.running then done s (expireTransit x s) else .next s
  | _, _ => .next s

/-! ## Telegrams -/

/-- R25, R31, R168: the owner takes a custody telegram, and acts on it in RUN when it is not addressed to station 0. -/
def takeCustody (t : Telegram) (act : State → Fx) (s : State) : Answer :=
  if custodyTelegramActs s t then done s (act (dropRx s)) else .next (dropRx s)

/-- R31: D decides on an OFFER. -/
def decideOffer (p : PackRecord) (origin : Nat) (s : State) : Fx :=
  match refusalReason s p with
  | some r => refuseOffer p r origin s
  | none => acceptOffer p origin s

/-- OFFER_RECEIVED (R31, R32). -/
def execOfferReceived (s : State) : Answer :=
  match oldestTelegram s with
  | some ⟨origin, dest, .offer p⟩ => takeCustody ⟨origin, dest, .offer p⟩ (decideOffer p origin) s
  | _ => .next s

/-- R33, R37, R45: an ACCEPT, matched or late. -/
def takeAccept (t : Token) (origin : Nat) (s : State) : Fx :=
  match matchesOffer s t origin with
  | some o => matchedAccept o s
  | none => lateAccept t origin s

/-- ACCEPT_RECEIVED (R33, R37, R45). -/
def execAcceptReceived (s : State) : Answer :=
  match oldestTelegram s with
  | some ⟨origin, dest, .accept t⟩ => takeCustody ⟨origin, dest, .accept t⟩ (takeAccept t origin) s
  | _ => .next s

/-- R35, R37, R45: a REFUSE, matched or late. -/
def takeRefuse (t : Token) (r : Reason) (origin : Nat) (s : State) : Fx :=
  match matchesOffer s t origin with
  | some o => quiet (matchedRefuse o r s)
  | none => quiet s

/-- REFUSE_RECEIVED (R35, R37, R45). -/
def execRefuseReceived (s : State) : Answer :=
  match oldestTelegram s with
  | some ⟨origin, dest, .refuse t r⟩ => takeCustody ⟨origin, dest, .refuse t r⟩ (takeRefuse t r origin) s
  | _ => .next s

/-- R38: a WITHDRAW closes the expectation that holds its token. -/
def takeWithdraw (t : Token) (s : State) : Fx :=
  match s.handoff.expect with
  | some x => if x.pack.token = t then quiet (closeExpectation s) else quiet s
  | none => quiet s

/-- WITHDRAW_RECEIVED (R38). -/
def execWithdrawReceived (s : State) : Answer :=
  match oldestTelegram s with
  | some ⟨origin, dest, .withdraw t⟩ => takeCustody ⟨origin, dest, .withdraw t⟩ (takeWithdraw t) s
  | _ => .next s

/-- R18, R19: an entry that ARRIVED or MISSING may name. -/
def awaitingEntry (s : State) (t : Token) : Option Entry :=
  (findEntry s t).filter fun e => e.state == .inTransit || e.state == .adrift

/-- R18, R41: an ARRIVED. -/
def takeArrived (t : Token) (s : State) : Fx :=
  match awaitingEntry s t with
  | some e =>
    (countCustody (fun c => { c with handed := c.handed.bump })
      (clearOfferOf e.pack.token (removeEntry e.pack.token s)), entryLeft)
  | none => quiet (countCustody (fun c => { c with strayArrived := c.strayArrived.bump }) s)

/-- ARRIVED_RECEIVED (R18, R41). -/
def execArrivedReceived (s : State) : Answer :=
  match oldestTelegram s with
  | some ⟨origin, dest, .arrived t⟩ => takeCustody ⟨origin, dest, .arrived t⟩ (takeArrived t) s
  | _ => .next s

/-- R19, R41: a MISSING. -/
def takeMissing (t : Token) (s : State) : Fx :=
  match awaitingEntry s t with
  | some e => loseEntry e s
  | none => quiet (countCustody (fun c => { c with strayMissing := c.strayMissing.bump }) s)

/-- MISSING_RECEIVED (R19, R41). -/
def execMissingReceived (s : State) : Answer :=
  match oldestTelegram s with
  | some ⟨origin, dest, .missing t⟩ => takeCustody ⟨origin, dest, .missing t⟩ (takeMissing t) s
  | _ => .next s

end Sys2Proof.Machine
end

