-- ==== Sys2Proof/Machine/Peers.lean ====
section
/-! DEFINITION. The meanings of the peer view's commands (chapter 9). -/
namespace Sys2Proof.Machine

/-- STATUS_RECEIVED (R149, R150). -/
def execStatusReceived (s : State) : Answer :=
  match oldestTelegram s with
  | some ⟨origin, _, .status f⟩ =>
    match Phase.viewsPeers s.loader.phase, peerOfNumber origin with
    | true, some p => done s (takeStatus p f (dropRx s))
    | _, _ => .next (dropRx s)
  | _ => .next s

/-- ALARM_RECEIVED (R149, R154). -/
def execAlarmReceived (s : State) : Answer :=
  match oldestTelegram s with
  | some ⟨origin, _, .alarm _ zone _ _ h⟩ =>
    match Phase.viewsPeers s.loader.phase, peerOfNumber origin with
    | true, some p => done s (takeAlarm p zone h (dropRx s))
    | _, _ => .next (dropRx s)
  | _ => .next s

/-- DUPLICATE_STATION (R149). -/
def execDuplicateStation (s : State) : Answer :=
  match s.link.rx with
  | t :: _ =>
    if badOrigin s t then
      (if Phase.viewsPeers s.loader.phase then done s (takeBadOrigin t.origin (dropRx s)) else .next (dropRx s))
    else .next s
  | [] => .next s

/-- REPORT_RECEIVED (R168). -/
def execReportReceived (s : State) : Answer :=
  match oldestTelegram s with
  | some ⟨_, _, .report ..⟩ => .next (dropRx s)
  | _ => .next s

/-- STALE_TIMER_EXPIRY (R153). -/
def execStaleTimerExpiry (p : PeerId) (s : State) : Answer :=
  let e := s.peers.entries[p]
  if e.heard = true ∧ e.freshness = .fresh ∧ e.stale = some 0 then done s (becomeStale p s) else .next s

/-- SILENT_TIMER_EXPIRY (R153). -/
def execSilentTimerExpiry (p : PeerId) (s : State) : Answer :=
  let e := s.peers.entries[p]
  if e.heard = true ∧ e.freshness ≠ .silent ∧ e.silent = some 0 then done s (becomeSilent p s) else .next s

/-- GRACE_TIMER_EXPIRY (R157). -/
def execGraceTimerExpiry (s : State) : Answer :=
  if s.peers.grace = some 0 then done s (passGrace s) else .next s

end Sys2Proof.Machine
end

