-- ==== Sys2Proof/Machine/LineBus.lean ====
section
/-! DEFINITION. The meanings of the line bus commands (chapter 10) and of the stop hold timer (R117). -/
namespace Sys2Proof.Machine

/-- STOP_BURST_END (R172). -/
def execStopBurstEnd (bitTimes : Nat) (s : State) : Answer :=
  .next (if s.link.on = true ∧ s.link.state = .emitting then
    (if s.link.burstLeft ≤ bitTimes then
      enterLink .settling (s.onLink fun l => { l with ltx := .recessive, burstLeft := 0 })
    else s.onLink fun l => { l with burstLeft := l.burstLeft - bitTimes })
  else s)

/-- STOP_BURST_DETECTED (R173). -/
def execStopBurstDetected (bits : List Bool) (s : State) : Answer :=
  if s.link.on = true ∧ LinkState.hearsBursts s.link.state = true ∧ reachesBurst s.link.dominant bits = true then
    done s (detectBurst (lossInRun s.link bits) s)
  else .next s

/-- STOP_HOLD_EXPIRY (R117). -/
def execStopHoldExpiry (s : State) : Answer :=
  if s.running ∧ s.hazard.stopHold = some 0 then
    done s (reassess (s.onHazard fun h => { h with stopHold := none }))
  else .next s

/-- STATION_STATUS_TIMER_EXPIRY (R171). -/
def execStationStatusTimerExpiry (s : State) : Answer :=
  .next (if joined s ∧ s.link.statusTimer = some 0 then statusTick s else s)

/-- R164: what an attempt in IDLE takes. -/
def nextToSend (l : Link) : Option (TxClass × Slot) :=
  match lowestClass l with
  | some c => (classHead l c).map fun sl => (c, sl)
  | none => none

/-- TRANSMIT_ATTEMPT (R164). -/
def execTransmitAttempt (s : State) : Answer :=
  .next (if s.link.on = true ∧ s.link.state = .idle then
    (match nextToSend s.link with
     | some (c, sl) => beginAttempt c sl s
     | none => s)
  else s)

/-- TELEGRAM_SENT (R164). -/
def execTelegramSent (readBack : List Bool) (s : State) : Answer :=
  .next (match s.link.sending with
    | some c => if s.link.state = .sending ∧ readBack = drivenBits s.link then succeed c s else s
    | none => s)

/-- ARBITRATION_LOST (R165). -/
def execArbitrationLost (readBack : List Bool) (s : State) : Answer :=
  .next (match arbitrationLoss (drivenBits s.link) readBack with
    | some k => if s.link.state = .sending then loseArbitration k readBack s else s
    | none => s)

/-- BIT_ERROR (R166): the read-back goes on from the mismatch to the bit at which it is judged. A dominant run that reaches
16 bit times is a stop burst, and nothing of the attempt is counted. -/
def execBitError (readBack : List Bool) (s : State) : Answer :=
  match s.link.sending, inTransmission s.link with
  | some c, some sl =>
    if s.link.state = .sending then
      match judgeMismatch (drivenBits s.link) readBack with
      | .recessive => done s (takeBitError c sl s)
      | .burst => done s (detectBurst false s)
      | .waiting | .past => .next s
    else .next s
  | _, _ => .next s

/-- FRAME_RECEIVED (R167). -/
def execFrameReceived (chars : List (BitVec 11)) (s : State) : Answer :=
  .next (if s.link.on = true ∧ LinkState.follows s.link.state = true then
    (match followFrame [] chars with
     | .whole bytes => judgeFrame bytes (enterLink .gap s)
     | .noStart | .noStop _ | .parity | .tooLong | .unfinished => s)
  else s)

/-- FRAME_ERROR (R167): a stop bit read dominant is judged with the bits that follow it: recessive first, a framing error;
a dominant run of 16 bit times, a stop burst with no error counted. DESIGN CHOICE (log 43): a first character with a recessive
start bit, where no frame has begun (R163), is a framing error as well. -/
def execFrameError (frame : FrameBits) (s : State) : Answer :=
  if s.link.on = true ∧ LinkState.follows s.link.state = true then
    match followFrame [] frame.chars, frame.waited with
    | .noStop run, _ =>
      match waitRecessive run frame.waited with
      | .recessive => .next (discardFrame (fun c => { c with framing := c.framing.bump }) (enterLink .settling s))
      | .burst => done s (detectBurst (lossInChars s.link frame.chars) s)
      | .waiting | .past => .next s
    | .noStart, [] => .next (discardFrame (fun c => { c with framing := c.framing.bump }) (enterLink .settling s))
    | .parity, [] => .next (discardFrame (fun c => { c with parity := c.parity.bump }) (enterLink .settling s))
    | .tooLong, [] => .next (discardFrame (fun c => { c with form := c.form.bump }) (enterLink .settling s))
    | _, _ => .next s
  else .next s

/-- LINK_IDLE (R163). -/
def execLinkIdle (bits : List Bool) (s : State) : Answer :=
  .next (if s.link.on = true ∧ runCompletes s.link bits = true then enterLink .idle s else s)

end Sys2Proof.Machine
end

