-- ==== Sys2Proof/Machine/Shredder.lean ====
section
/-! DEFINITION. The meanings of the atmosphere, rotor and feed commands (chapter 8). -/
namespace Sys2Proof.Machine

/-- SETTLE_TIMER_EXPIRY (R132). -/
def execSettleTimerExpiry (s : State) : Answer :=
  if chamberActs s ∧ s.chamber.settle = some 0 then done s (expireSettle s) else .next s

/-- PURGE_TIMER_EXPIRY (R136). -/
def execPurgeTimerExpiry (s : State) : Answer :=
  if chamberActs s ∧ s.chamber.purge = some 0 then done s (expirePurge s) else .next s

/-- ROTOR_PULSE (R1, R139 to R141). -/
def execRotorPulse (samples : List Bool) (s : State) : Answer :=
  let rises := s.pins.rotor.rises samples
  let s := s.onPins fun p => { p with rotor := p.rotor.run samples }
  if rises = true ∧ chamberActs s ∧ s.rotor.run = true then done s (takeRotorPulse s) else .next s

/-- STALL_TIMER_EXPIRY (R140). -/
def execStallTimerExpiry (s : State) : Answer :=
  if chamberActs s ∧ s.rotor.stall = some 0 then done s (expireStall s) else .next s

/-- FEED_TIMER_EXPIRY (R144). -/
def execFeedTimerExpiry (s : State) : Answer :=
  match feedingEntry s with
  | some e => if chamberActs s ∧ s.feed.timer = some 0 then done s (expireFeed e s) else .next s
  | none => .next s

end Sys2Proof.Machine
end

