-- ==== Sys2Proof/Machine/Service.lean ====
section
/-! DEFINITION. The meanings of the QUERY commands (chapter 11). Each acts when the oldest telegram of the receive queue is
a QUERY that names its item (R168, R181). -/
namespace Sys2Proof.Machine

/-- IDENTIFY (R182). -/
def execIdentify (s : State) : Answer := .next (serve (· == 1) answerIdentify s)

/-- COUNTERS (R183). -/
def execCounters (s : State) : Answer := .next (serve (· == 2) answerCounters s)

/-- CUSTODY (R182). -/
def execCustody (s : State) : Answer := .next (serve (· == 3) (answerRecord custodyRecord) s)

/-- PEER (R182). -/
def execPeer (s : State) : Answer := .next (serve (· == 4) (answerRecord peerRecord) s)

/-- POINT (R182). -/
def execPoint (s : State) : Answer := .next (serve (· == 5) (answerRecord pointRecord) s)

/-- ZONE (R182). -/
def execZone (s : State) : Answer := .next (serve (· == 6) (answerRecord zoneRecord) s)

/-- CHANNEL (R182). -/
def execChannel (s : State) : Answer := .next (serve (· == 7) (answerRecord channelRecord) s)

/-- CAUSE (R182). -/
def execCause (s : State) : Answer := .next (serve (· == 8) (answerRecord causeRecord) s)

/-- CHAMBER (R182): the index is ignored. -/
def execChamber (s : State) : Answer :=
  .next (serve (· == 9) (answerRecord fun s _ => some ⟨[], chamberFields s⟩) s)

/-- TALLY (R184). -/
def execTally (s : State) : Answer := .next (serve (· == 10) answerTally s)

/-- TURN (R179, R184). -/
def execTurn (s : State) : Answer := .next (serve (· == 11) answerTurn s)

/-- QUERY_UNDEFINED_ITEM (R181). -/
def execQueryUndefinedItem (s : State) : Answer := .next (serve (fun n => n == 0 || 12 ≤ n) answerUndefined s)

end Sys2Proof.Machine
end

