-- ==== Sys2Proof/Machine/Tick.lean ====
section
/-! DEFINITION. One millisecond of the station clock, taken when no command waits (logs 1 and 2): the clock, the timers,
the times that are counted, and the expiry commands of the timers that run out at its end. -/
namespace Sys2Proof.Machine

/-! ## What a millisecond adds and takes away -/

/-- One millisecond off the window of a PENDING zone. -/
def tickWindow : ZoneWindow → ZoneWindow
  | .running n => .running (n - 1)
  | .none => .none
  | .lapsed => .lapsed

/-- R60: the discharge time counts in DISCHARGE and HELD. -/
def countsTime : ChannelState → Bool
  | .discharge | .held => true
  | .empty | .connecting | .rest | .done => false

/-- A channel's timers. -/
def tickChannel (maxMs : Nat) (c : Channel) : Channel :=
  { c with rest := tickTimer c.rest, spent := if countsTime c.state then min maxMs (c.spent + 1) else c.spent }

/-- R137: a total counts while its condition holds. -/
def tickTotal (b : Bool) (t : TimeTotal) : TimeTotal := if b then t.bump else t

/-- R137: exposure counts while RUN is asserted over oxygen at or above O2_warn, or unknown. -/
def exposed (s : State) : Bool := s.rotor.run && s.cfg.o2Warn ≤ oxygenValue s.chamber.oxygen

/-- Every timer and every counted time after one millisecond. -/
def tickState (s : State) : State :=
  let s := s.onClock (· + 1)
  let s := s.onLoader fun l => { l with baselineTimer := tickTimer l.baselineTimer }
  let s := s.onCustody fun c => { c with list := c.list.map fun e => { e with adrift := tickTimer e.adrift } }
  let s := s.onHandoff fun h =>
    { h with reply := tickTimer h.reply, retry := tickTimer h.retry, gate := tickTimer h.gate,
             transit := tickTimer h.transit }
  let s := s.onChannels fun cs => tabulate fun c => tickChannel s.cfg.maxMs cs[c]
  let s := s.onPoints fun ps => tabulate fun p => { ps[p] with window := tickTimer ps[p].window }
  let s := s.onScanner fun k =>
    { k with testTimer := tickTimer k.testTimer, releaseTimer := tickTimer k.releaseTimer,
             intervalTimer := tickTimer k.intervalTimer }
  let s := s.onZones fun k =>
    { k with zones := tabulate fun z => { k.zones[z] with window := tickWindow k.zones[z].window },
             persist := tabulate fun p => tickTimer k.persist[p] }
  let s := s.onHazard fun h => { h with stopHold := tickTimer h.stopHold }
  let run := exposed s
  let s := s.onChamber fun c =>
    { c with settle := tickTimer c.settle, purge := tickTimer c.purge,
             purgeTime := tickTotal c.purgeOpen c.purgeTime, floodTime := tickTotal c.floodOpen c.floodTime,
             exposure := tickTotal run c.exposure }
  let s := s.onRotor fun r => { r with stall := tickTimer r.stall }
  let s := s.onFeed fun f => { f with timer := tickTimer f.timer }
  let s := s.onPeers fun v =>
    { v with entries := tabulate fun p =>
               { v.entries[p] with stale := tickTimer v.entries[p].stale, silent := tickTimer v.entries[p].silent },
             grace := tickTimer v.grace }
  s.onLink fun l => { l with statusTimer := tickTimer l.statusTimer }

/-! ## What runs out -/

/-- The command of a timer whose last millisecond this is. -/
def lastMs (t : Timer) (i : Instr) : List Instr := if t = some 1 then [i] else []

/-- The window of a zone in its last millisecond. -/
def windowEnds : ZoneWindow → Bool
  | .running n => n == 1
  | .none | .lapsed => false

/-- R60: the discharge time of a channel reaches T_max with this millisecond. DESIGN CHOICE (log 39): one that stood at T_max
already when a rebound brought the channel back to DISCHARGE or HELD expires with the next millisecond. -/
def timeEnds (maxMs : Nat) (c : Channel) : Bool := countsTime c.state && maxMs ≤ c.spent + 1

/-- The pulse points. -/
def allPulses : List PulseId := [0, 1, 2, 3]

/-- The expiry commands of the timers that run out at the end of this millisecond, in the order of the blocks of
Table 2 (log 2). -/
def expiries (s : State) : List Instr :=
  lastMs s.loader.baselineTimer (.baselineEnd s.pins.vsns)
    ++ s.custody.list.flatMap (fun e => lastMs e.adrift (.adriftExpiry e.pack.token))
    ++ lastMs s.handoff.reply .replyTimerExpiry ++ lastMs s.handoff.retry .retryTimerExpiry
    ++ lastMs s.handoff.gate .exitGateExpiry ++ lastMs s.handoff.transit .transitTimerExpiry
    ++ allChannels.flatMap (fun c =>
      lastMs s.channels[c].rest (.restTimerExpiry c)
        ++ (if timeEnds s.cfg.maxMs s.channels[c] then [.dischargeTimeExpiry c] else []))
    ++ allPulses.flatMap (fun q => lastMs s.points[pulsePoint q].window (.pulseWindowEnd q))
    ++ lastMs s.scanner.testTimer .testTimerExpiry ++ lastMs s.scanner.releaseTimer .releaseEnd
    ++ lastMs s.scanner.intervalTimer .testIntervalExpiry
    ++ allZones.flatMap (fun z => if windowEnds s.zones.zones[z].window then [.zoneWindowExpiry z] else [])
    ++ allPoints.flatMap (fun p => lastMs s.zones.persist[p] (.persistenceExpiry p))
    ++ lastMs s.hazard.stopHold .stopHoldExpiry
    ++ lastMs s.chamber.settle .settleTimerExpiry ++ lastMs s.chamber.purge .purgeTimerExpiry
    ++ lastMs s.rotor.stall .stallTimerExpiry ++ lastMs s.feed.timer .feedTimerExpiry
    ++ allPeers.flatMap (fun p =>
      lastMs s.peers.entries[p].stale (.staleTimerExpiry p) ++ lastMs s.peers.entries[p].silent (.silentTimerExpiry p))
    ++ lastMs s.peers.grace .graceTimerExpiry ++ lastMs s.link.statusTimer .stationStatusTimerExpiry

/-- One millisecond with no command waiting: the expiries come to the queue; held in reset nothing moves (R186). -/
def tick (s : State) : State :=
  if s.loader.held then s else { tickState s with pending := expiries s }

end Sys2Proof.Machine
end

