-- ==== Sys2Proof/Machine/Dispatch.lean ====
section
/-! DEFINITION. One arm per command: a direct call of its meaning. -/
namespace Sys2Proof.Machine

/-- The effect of a command on everything but the queue. -/
def exec (i : Instr) (s : State) : Host.Outcome State Fault Refusal :=
  match i with
  | .powerOnReset => Sys2Proof.Machine.execPowerOnReset s
  | .pinReset => Sys2Proof.Machine.execPinReset s
  | .resetRelease samples => Sys2Proof.Machine.execResetRelease samples s
  | .imageReadAttempt bytes => Sys2Proof.Machine.execImageReadAttempt bytes s
  | .joinCompletion bits readings => Sys2Proof.Machine.execJoinCompletion bits readings s
  | .baselineEnd volts => Sys2Proof.Machine.execBaselineEnd volts s
  | .entryRise samples cls dmg => Sys2Proof.Machine.execEntryRise samples cls dmg s
  | .removeRise samples => Sys2Proof.Machine.execRemoveRise samples s
  | .throatPulse samples => Sys2Proof.Machine.execThroatPulse samples s
  | .restoreRise samples => Sys2Proof.Machine.execRestoreRise samples s
  | .connRise ch samples volts => Sys2Proof.Machine.execConnRise ch samples volts s
  | .connFall ch samples => Sys2Proof.Machine.execConnFall ch samples s
  | .measurementSample ch volts current temp => Sys2Proof.Machine.execMeasurementSample ch volts current temp s
  | .restTimerExpiry ch => Sys2Proof.Machine.execRestTimerExpiry ch s
  | .dischargeTimeExpiry ch => Sys2Proof.Machine.execDischargeTimeExpiry ch s
  | .pointScan pt reading => Sys2Proof.Machine.execPointScan pt reading s
  | .pulseEdge pt samples => Sys2Proof.Machine.execPulseEdge pt samples s
  | .pulseWindowEnd pt => Sys2Proof.Machine.execPulseWindowEnd pt s
  | .testTimerExpiry => Sys2Proof.Machine.execTestTimerExpiry s
  | .releaseEnd => Sys2Proof.Machine.execReleaseEnd s
  | .testIntervalExpiry => Sys2Proof.Machine.execTestIntervalExpiry s
  | .zoneWindowExpiry z => Sys2Proof.Machine.execZoneWindowExpiry z s
  | .persistenceExpiry pt => Sys2Proof.Machine.execPersistenceExpiry pt s
  | .stopBurstEnd bitTimes => Sys2Proof.Machine.execStopBurstEnd bitTimes s
  | .stopBurstDetected bits => Sys2Proof.Machine.execStopBurstDetected bits s
  | .stopHoldExpiry => Sys2Proof.Machine.execStopHoldExpiry s
  | .replyTimerExpiry => Sys2Proof.Machine.execReplyTimerExpiry s
  | .retryTimerExpiry => Sys2Proof.Machine.execRetryTimerExpiry s
  | .exitGateExpiry => Sys2Proof.Machine.execExitGateExpiry s
  | .adriftExpiry tok => Sys2Proof.Machine.execAdriftExpiry tok s
  | .transitTimerExpiry => Sys2Proof.Machine.execTransitTimerExpiry s
  | .offerReceived => Sys2Proof.Machine.execOfferReceived s
  | .acceptReceived => Sys2Proof.Machine.execAcceptReceived s
  | .refuseReceived => Sys2Proof.Machine.execRefuseReceived s
  | .withdrawReceived => Sys2Proof.Machine.execWithdrawReceived s
  | .arrivedReceived => Sys2Proof.Machine.execArrivedReceived s
  | .missingReceived => Sys2Proof.Machine.execMissingReceived s
  | .statusReceived => Sys2Proof.Machine.execStatusReceived s
  | .alarmReceived => Sys2Proof.Machine.execAlarmReceived s
  | .duplicateStation => Sys2Proof.Machine.execDuplicateStation s
  | .reportReceived => Sys2Proof.Machine.execReportReceived s
  | .staleTimerExpiry p => Sys2Proof.Machine.execStaleTimerExpiry p s
  | .silentTimerExpiry p => Sys2Proof.Machine.execSilentTimerExpiry p s
  | .graceTimerExpiry => Sys2Proof.Machine.execGraceTimerExpiry s
  | .stationStatusTimerExpiry => Sys2Proof.Machine.execStationStatusTimerExpiry s
  | .transmitAttempt => Sys2Proof.Machine.execTransmitAttempt s
  | .telegramSent readBack => Sys2Proof.Machine.execTelegramSent readBack s
  | .arbitrationLost readBack => Sys2Proof.Machine.execArbitrationLost readBack s
  | .bitError readBack => Sys2Proof.Machine.execBitError readBack s
  | .frameReceived chars => Sys2Proof.Machine.execFrameReceived chars s
  | .frameError frame => Sys2Proof.Machine.execFrameError frame s
  | .linkIdle bits => Sys2Proof.Machine.execLinkIdle bits s
  | .settleTimerExpiry => Sys2Proof.Machine.execSettleTimerExpiry s
  | .purgeTimerExpiry => Sys2Proof.Machine.execPurgeTimerExpiry s
  | .rotorPulse samples => Sys2Proof.Machine.execRotorPulse samples s
  | .stallTimerExpiry => Sys2Proof.Machine.execStallTimerExpiry s
  | .feedTimerExpiry => Sys2Proof.Machine.execFeedTimerExpiry s
  | .identify => Sys2Proof.Machine.execIdentify s
  | .counters => Sys2Proof.Machine.execCounters s
  | .custody => Sys2Proof.Machine.execCustody s
  | .peer => Sys2Proof.Machine.execPeer s
  | .point => Sys2Proof.Machine.execPoint s
  | .zone => Sys2Proof.Machine.execZone s
  | .channel => Sys2Proof.Machine.execChannel s
  | .cause => Sys2Proof.Machine.execCause s
  | .chamber => Sys2Proof.Machine.execChamber s
  | .tally => Sys2Proof.Machine.execTally s
  | .turn => Sys2Proof.Machine.execTurn s
  | .queryUndefinedItem => Sys2Proof.Machine.execQueryUndefinedItem s

end Sys2Proof.Machine
end

