-- ==== Sys2Proof/WellFormed.lean ====
section
/-! DEFINITION. Well-formed commands: operands the hardware's converters, inputs and memory can give. A meaning is
total all the same: a converter holds a reading at the end of its range (R69, R83), and a token that no entry carries
names no entry (R15). -/
namespace Sys2Proof

/-- R69: a voltage code, 0–65,535. -/
def voltsInRange (v : Nat) : Bool := v ≤ 65535

/-- R69: a current code, −32,768 to +32,767. -/
def currentInRange (i : Int) : Bool := -32768 ≤ i && i ≤ 32767

/-- Table 4: a temperature as a signed 16-bit number of 0.1 °C. -/
def tempInRange (t : Int) : Bool := -32768 ≤ t && t ≤ 32767

/-- R81: the widest reading a kind allows (HEAT from −32,768, VAPOUR to 65,535). -/
def readingInRange (r : Int) : Bool := -32768 ≤ r && r ≤ 65535

/-- Table 6: origin station 1–31, serial 1–16,777,215. -/
def Token.wf (t : Token) : Bool := 1 ≤ t.origin && t.origin ≤ 31 && 1 ≤ t.serial && t.serial ≤ 16777215

/-- A command whose operands the hardware can meet. -/
def Instr.wf : Instr → Bool
  | .imageReadAttempt bytes => bytes.length == 512
  | .joinCompletion bits readings => !bits.isEmpty && readings.toList.all readingInRange
  | .stopBurstDetected bits | .linkIdle bits => !bits.isEmpty
  | .baselineEnd v => voltsInRange v[0] && voltsInRange v[1] && voltsInRange v[2] && voltsInRange v[3]
  | .entryRise samples cls dmg => !samples.isEmpty && !cls.isEmpty && !dmg.isEmpty
  | .removeRise samples | .throatPulse samples | .restoreRise samples
  | .connFall _ samples | .pulseEdge _ samples | .rotorPulse samples => !samples.isEmpty
  | .connRise _ samples v => !samples.isEmpty && voltsInRange v
  | .measurementSample _ v i t => voltsInRange v && currentInRange i && tempInRange t
  | .pointScan _ r => readingInRange r
  | .stopBurstEnd n => 0 < n
  | .adriftExpiry tok => tok.wf
  | .telegramSent bits | .arbitrationLost bits | .bitError bits => !bits.isEmpty
  | .frameReceived chars => 6 ≤ chars.length && chars.length ≤ 30
  | .frameError ⟨chars, waited⟩ => !chars.isEmpty && chars.length ≤ 30 && waited.length ≤ 16
  | .resetRelease ⟨_, straps⟩ => !straps.isEmpty
  | .powerOnReset | .pinReset | .restTimerExpiry _ | .dischargeTimeExpiry _ | .pulseWindowEnd _
  | .testTimerExpiry | .releaseEnd | .testIntervalExpiry | .zoneWindowExpiry _ | .persistenceExpiry _
  | .stopHoldExpiry | .replyTimerExpiry | .retryTimerExpiry | .exitGateExpiry | .transitTimerExpiry
  | .offerReceived | .acceptReceived | .refuseReceived | .withdrawReceived | .arrivedReceived | .missingReceived
  | .statusReceived | .alarmReceived | .duplicateStation | .reportReceived | .staleTimerExpiry _
  | .silentTimerExpiry _ | .graceTimerExpiry | .stationStatusTimerExpiry | .transmitAttempt | .settleTimerExpiry
  | .purgeTimerExpiry | .stallTimerExpiry | .feedTimerExpiry | .identify | .counters | .custody | .peer | .point
  | .zone | .channel | .cause | .chamber | .tally | .turn | .queryUndefinedItem => true

end Sys2Proof
end

