-- ==== Sys2Proof/Safety.lean ====
section
/-! DEFINITION. What a safe state of the SC-40 is: the laws that the manual says every state keeps. Statements about runs
use these names. -/
namespace Sys2Proof.Machine

/-- R9: the list and the open expectation never hold more than 16 packs. -/
def CapacityLaw (s : State) : Prop := occupancy s ≤ 16

/-- R7: no token appears twice among the entries and the open expectation. -/
def TokenLaw (s : State) : Prop := (heldTokens s).Nodup

/-- R54, R59: LOADx stands at 0 outside DISCHARGE. -/
def LoadLaw (s : State) : Prop := ∀ c : ChannelId, s.channels[c].state ≠ .discharge → s.channels[c].load = 0

/-- R125: SAFE and ALERT as the phase and the line hazard have them. -/
def OutputLaw (s : State) : Prop :=
  s.hazard.safe = safeOutput s.loader.phase s.hazard.line ∧ s.hazard.alert = alertOutput s.hazard.line

/-- R120: both hazards follow from the cause records. -/
def HazardLaw (s : State) : Prop :=
  s.hazard.station = stationHazard s.hazard.causes ∧ s.hazard.line = lineHazard s.hazard.causes

/-- R168, R169, R177: no queue and no bank holds more than its places. -/
def QueueLaw (s : State) : Prop :=
  s.link.alarms.length ≤ 2 ∧ s.link.custody.length ≤ 4 ∧ s.link.rx.length ≤ 4
    ∧ s.tally.bankA.length ≤ 32 ∧ s.tally.bankB.length ≤ 32

/-- R186, R190, R93: held in reset the phase is LOAD, the start-up round runs in TEST alone and an interval round in RUN
alone, and before RUN the station holds no pack and no cause is active. -/
def StartLaw (s : State) : Prop :=
  (s.loader.held = true → s.loader.phase = .load) ∧
  (∀ r, s.scanner.round = some r → s.loader.phase = if r.startup then .test else .run) ∧
  (s.loader.phase ≠ .run → s.custody.list = [] ∧ s.handoff.expect = none
    ∧ ∀ c : Cause, s.hazard.causes[Cause.index c].active = false)

/-- R23, the custody balance in session counts: intake, arrived and orphan equal handed, lost, shredded, removed and the
entries of the list, modulo 2^32. -/
def BalanceLaw (s : State) : Prop :=
  let k := s.custody.counts
  k.intake.session + k.arrived.session + k.orphan.session
    = k.handed.session + k.lost.session + k.shredded.session + k.removed.session
      + BitVec.ofNat 32 s.custody.list.length

/-- R177, the tally balance: records appended and dropped equal lifetime shredded, removed and lost, modulo 2^32. -/
def TallyLaw (s : State) : Prop :=
  let k := s.custody.counts
  s.tally.appended + s.tally.dropped = k.shredded.lifetime + k.removed.lifetime + k.lost.lifetime

/-- R142, the law of the FEED gate: it is open exactly while an entry is FEEDING, and no more than one is; that entry is
eligible for feed, and the feed conditions hold. -/
def FeedLaw (s : State) : Prop :=
  s.feed.gate = (feedingEntry s).isSome ∧
  ((s.custody.list.filter fun e => e.state == .feeding).length ≤ 1) ∧
  ∀ e ∈ s.custody.list, e.state = .feeding → mayFeed s ∧ eligible e.pack = true

/-- R178: in RUN a filling bank at or above the watermark has TALLY_DUE set. -/
def DueLaw (s : State) : Prop :=
  s.running → 0 < s.cfg.watermark → s.cfg.watermark ≤ (Tally.fillingBank s.tally).length → s.tally.due = true

/-! ## Timers -/

/-- The event of an expiry command comes with the millisecond that begins in `s`: its timer has one millisecond left, or
the discharge time reaches T_max. No other command is an expiry. -/
def RanOut (s : State) : Instr → Prop
  | .baselineEnd v => s.loader.baselineTimer = some 1 ∧ v = s.pins.vsns
  | .restTimerExpiry c => s.channels[c].rest = some 1
  | .dischargeTimeExpiry c =>
    (s.channels[c].state = .discharge ∨ s.channels[c].state = .held) ∧ s.cfg.maxMs ≤ s.channels[c].spent + 1
  | .pulseWindowEnd q => s.points[pulsePoint q].window = some 1
  | .testTimerExpiry => s.scanner.testTimer = some 1
  | .releaseEnd => s.scanner.releaseTimer = some 1
  | .testIntervalExpiry => s.scanner.intervalTimer = some 1
  | .zoneWindowExpiry z => s.zones.zones[z].window = .running 1
  | .persistenceExpiry p => s.zones.persist[p] = some 1
  | .stopHoldExpiry => s.hazard.stopHold = some 1
  | .replyTimerExpiry => s.handoff.reply = some 1
  | .retryTimerExpiry => s.handoff.retry = some 1
  | .exitGateExpiry => s.handoff.gate = some 1
  | .adriftExpiry tok => ∃ e ∈ s.custody.list, e.pack.token = tok ∧ e.adrift = some 1
  | .transitTimerExpiry => s.handoff.transit = some 1
  | .staleTimerExpiry p => s.peers.entries[p].stale = some 1
  | .silentTimerExpiry p => s.peers.entries[p].silent = some 1
  | .graceTimerExpiry => s.peers.grace = some 1
  | .stationStatusTimerExpiry => s.link.statusTimer = some 1
  | .settleTimerExpiry => s.chamber.settle = some 1
  | .purgeTimerExpiry => s.chamber.purge = some 1
  | .stallTimerExpiry => s.rotor.stall = some 1
  | .feedTimerExpiry => s.feed.timer = some 1
  | _ => False

/-! ## Telegrams and queries -/

/-- R17: a mark's station fits its five bits. -/
def Mark.wf (m : Mark) : Prop := m.station ≤ 31

/-- Tables 7 and 39: a summary whose fields fit. -/
def Summary.wf (m : Summary) : Prop :=
  m.energy < 2 ^ 32 ∧ m.charge < 2 ^ 32 ∧ m.restVolts < 2 ^ 16 ∧ m.rebounds ≤ 7 ∧ -32768 ≤ m.peak ∧ m.peak ≤ 32767
    ∧ m.station ≤ 31

/-- Table 6: a pack record whose fields are in their ranges. -/
def PackRecord.wf (p : PackRecord) : Prop :=
  p.token.wf = true ∧ p.hops ≤ 15 ∧ p.marks.length ≤ 4 ∧ (∀ m ∈ p.marks, Mark.wf m)
    ∧ (∀ m, p.summary = some m → Summary.wf m)

/-- R195: a payload that passes the form check, each field in its range. -/
def Payload.wf : Payload → Prop
  | .alarm _ zone point _ _ => zone ≤ 4 ∧ point ≤ 12
  | .offer p => PackRecord.wf p
  | .accept t | .withdraw t | .arrived t | .missing t | .refuse t _ => t.wf = true
  | .status f => f.free ≤ 16 ∧ f.count ≤ 16 ∧ f.period ≤ 255 ∧ f.seq ≤ 255
  | .query item index part => item ≤ 255 ∧ index ≤ 255 ∧ part ≤ 255
  | .report item index _ part answer => 1 ≤ item ∧ item ≤ 11 ∧ index ≤ 255 ∧ part ≤ 15 ∧ answer.length ≤ 21

/-- R162: a telegram that a station can send. -/
def Telegram.wf (t : Telegram) : Prop := t.origin ≤ 31 ∧ t.dest ≤ 255 ∧ Payload.wf t.payload

/-- R181, Table 33: the command by which a QUERY of an item is taken. -/
def queryCommand : Nat → Instr
  | 1 => .identify
  | 2 => .counters
  | 3 => .custody
  | 4 => .peer
  | 5 => .point
  | 6 => .zone
  | 7 => .channel
  | 8 => .cause
  | 9 => .chamber
  | 10 => .tally
  | 11 => .turn
  | _ => .queryUndefinedItem

/-- R182: the record that a record item reads at an index. -/
def recordOf (s : State) (item index : Nat) : Option Record :=
  match item with
  | 3 => custodyRecord s index
  | 4 => peerRecord s index
  | 5 => pointRecord s index
  | 6 => zoneRecord s index
  | 7 => channelRecord s index
  | 8 => causeRecord s index
  | 9 => some ⟨[], chamberFields s⟩
  | _ => none

/-! ## What a change leaves alone -/

/-- The parts of the state, each the record of one block of Table 2 or what the blocks share. -/
inductive Block where
  | pending | pins | loader | cfg | clock | custody | handoff | channels | points | scanner | zones | hazard
  | chamber | rotor | feed | peers | link | tally | responder
  deriving DecidableEq, Repr

/-- A part of the state stands in `t` as it stands in `s`. -/
def Block.Same (s t : State) : Block → Prop
  | .pending => t.pending = s.pending
  | .pins => t.pins = s.pins
  | .loader => t.loader = s.loader
  | .cfg => t.cfg = s.cfg
  | .clock => t.clock = s.clock
  | .custody => t.custody = s.custody
  | .handoff => t.handoff = s.handoff
  | .channels => t.channels = s.channels
  | .points => t.points = s.points
  | .scanner => t.scanner = s.scanner
  | .zones => t.zones = s.zones
  | .hazard => t.hazard = s.hazard
  | .chamber => t.chamber = s.chamber
  | .rotor => t.rotor = s.rotor
  | .feed => t.feed = s.feed
  | .peers => t.peers = s.peers
  | .link => t.link = s.link
  | .tally => t.tally = s.tally
  | .responder => t.responder = s.responder

/-- From `s` to `t` only these parts of the state change. -/
def OnlyTouches (touched : List Block) (s t : State) : Prop := ∀ b, b ∉ touched → Block.Same s t b

/-! ## What the hand-ons of a command leave alone

A command's own effect comes first; then each owner takes what was handed to it (log 4). The next two relations say
what those hand-ons cannot change, so that a statement can give a command's own effect exactly. -/

/-- What identifies an entry and its pack, whatever its state: token, class, damaged flag, hops, orphan flag and entry
time. -/
def Entry.identity (e : Entry) : Token × PackClass × Bool × Nat × Bool × Clock :=
  (e.pack.token, e.pack.cls, e.pack.damaged, e.pack.hops, e.pack.orphan, e.entered)

/-- The identity of an entry with its summary. -/
def Entry.dossier (e : Entry) : (Token × PackClass × Bool × Nat × Bool × Clock) × Option Summary :=
  (Entry.identity e, e.pack.summary)

/-- What a channel has measured and counted for its pack, its state and what its state drives apart. -/
def Channel.measured (c : Channel) : Channel :=
  { c with state := .empty, holdSensor := false, holdFlood := false, holdHazard := false, endCount := 0, noResp := 0,
           load := 0, duty := 0 }

/-- What a channel has measured, a verdict's own items apart. -/
def Channel.readings (c : Channel) : Channel :=
  { Channel.measured c with verdict := none, rest := none, netIn := false, counts := Channel.reset.counts }

/-- What scans, windows and tests have found at a point, its reported state and what the scanner's turn sets apart. -/
def Point.found (pt : Point) : Point :=
  { pt with reported := .normal, heldReading := none, result := none, resultTime := none,
            counts := Point.reset.counts }

/-- The link counts but for those that queueing a telegram or a stop burst can raise. -/
def LinkCounts.traffic (k : LinkCounts) : LinkCounts :=
  { k with displaced := .zero, custodyDrops := .zero, replacements := .zero, burstsEmitted := .zero }

/-- The parts of the state that a hand-on can change. -/
def handOnBlocks : List Block :=
  [.loader, .custody, .handoff, .channels, .points, .scanner, .zones, .hazard, .chamber, .rotor, .feed, .link]

/-- No round of self-tests is in progress. -/
abbrev State.calm (s : State) : Prop := s.scanner.round = none

/-- The round in progress, if any, is not the start-up round. -/
def noStartupRound (s : State) : Prop := ∀ r, s.scanner.round = some r → r.startup = false

/-- R116: a raising event has latched its cause, and the cause is active. -/
def Latched (s : State) (l : Latch) : Prop :=
  s.hazard.causes[Cause.index l.cause].latch = true ∧ s.hazard.causes[Cause.index l.cause].active = true

/-- R117: LINE_STOP is active while the stop hold timer runs. -/
def LineStopLaw (s : State) : Prop :=
  s.hazard.causes[Cause.index .lineStop].active = s.hazard.stopHold.isSome

/-- R116: the latch of a zone is set and ZONE_CONFIRMED is active. -/
def ZoneLatched (s : State) (z : ZoneId) : Prop :=
  s.hazard.zoneLatch[z] = true ∧ s.hazard.causes[Cause.index .zoneConfirmed].active = true

/-- R122: taking the facts present makes a local cause active at NOMINAL or HIGH; ZONE_CONFIRMED counts by zone latch. -/
def Activates (s : State) (c : Cause) : Prop :=
  Cause.isLocal c = true ∧ c ≠ .zoneConfirmed ∧ s.hazard.causes[Cause.index c].active = false ∧ condition s c = true
    ∧ 2 ≤ Level.rank s.hazard.causes[Cause.index c].level

/-- R17: an entry that takes an offered mark: not a second time, appended while it has fewer than four, else overflow. -/
def Entry.marked (m : Mark) (e : Entry) : Entry :=
  if m ∈ e.pack.marks then e
  else if e.pack.marks.length < 4 then { e with pack := { e.pack with marks := e.pack.marks ++ [m] } }
  else { e with pack := { e.pack with overflow := true } }

/-- What no hand-on changes, whatever is going on at the station. -/
structure HandOnFrame (s t : State) : Prop where
  outside : OnlyTouches handOnBlocks s t
  own : t.loader.own = s.loader.own
  loader : noStartupRound s → t.loader = s.loader ∧ noStartupRound t
  packs : t.custody.list.map Entry.identity = s.custody.list.map Entry.identity
  nextSerial : t.custody.nextSerial = s.custody.nextSerial
  orphanSeq : t.custody.orphanSeq = s.custody.orphanSeq
  counts : { t.custody.counts with withdrawals := s.custody.counts.withdrawals } = s.custody.counts
  expect : t.handoff.expect = s.handoff.expect
  transit : t.handoff.transit = s.handoff.transit
  exit : t.handoff.exitGate = s.handoff.exitGate ∧ t.handoff.gate = s.handoff.gate
  finished : ∀ c : ChannelId, s.channels[c].state = .done → t.channels[c] = s.channels[c]
  connected : ∀ c : ChannelId, s.pins.conn[c].level = true → s.channels[c].state ≠ .empty →
    t.channels[c].state ≠ .empty ∧ Channel.readings t.channels[c] = Channel.readings s.channels[c]
  points : ∀ p : PointId, Point.found t.points[p] = Point.found s.points[p]
  rx : t.link.rx = s.link.rx
  joined : t.link.on = s.link.on ∧ (t.link.state = s.link.state ∨ t.link.state = .emitting)
  report : t.link.report = s.link.report
  statusTimer : t.link.statusTimer = s.link.statusTimer
  custodyQueue : s.link.custody <+: t.link.custody
  restores : t.hazard.restores = s.hazard.restores
  stopHold : t.hazard.stopHold = s.hazard.stopHold
  latched : ∀ l : Latch, Latched s l → Latched t l
  lineStop : LineStopLaw s → LineStopLaw t
  linkCounts : LinkCounts.traffic t.link.counts = LinkCounts.traffic s.link.counts
  rotor : t.rotor.stalls = s.rotor.stalls ∧ t.rotor.period = s.rotor.period
  timeouts : t.feed.timeouts = s.feed.timeouts

/-- The notices that concern no zone, no point and no oxygen reading, and the looks at the round of self-tests. -/
def Notice.isCalm : Notice → Bool
  | .fact _ | .reassess | .raise _ | .channelsHazard | .assign | .handoffHazard | .search | .downstreamLost .. | .peerNews _
  | .scannerLook | .rotorLook | .feedLook => true
  | .zoneConfirmed .. | .zoneCleared _ | .channelsFire _ | .roundFrom _ | .roundAgain | .zonePoint .. | .zoneRestore
  | .chamberConfirmed _ | .chamberCleared _ | .chamberRestore | .oxygen => false

/-- No entry is WAITING for a channel. -/
def noneWaiting (s : State) : Prop := ∀ e ∈ s.custody.list, e.state ≠ .waiting

/-- The parts of the state that the hand-ons can change when no zone, point or oxygen reading is concerned and no round
of self-tests is in progress. -/
def calmBlocks : List Block := [.custody, .handoff, .channels, .hazard, .rotor, .feed, .link]

/-- What the hand-ons of a command leave alone when none concerns a zone, a point or the oxygen, no round of self-tests
is in progress, and no channel is given a pack. -/
structure CalmFrame (s t : State) : Prop where
  outside : OnlyTouches calmBlocks s t
  dossiers : t.custody.list.map Entry.dossier = s.custody.list.map Entry.dossier
  energy : t.custody.energy = s.custody.energy
  idle : ∀ c : ChannelId, s.channels[c].state ≠ .discharge → s.channels[c].state ≠ .held →
    t.channels[c] = s.channels[c]
  discharging : ∀ c : ChannelId, s.channels[c].state = .discharge ∨ s.channels[c].state = .held →
    (t.channels[c].state = .discharge ∨ t.channels[c].state = .held)
      ∧ Channel.measured t.channels[c] = Channel.measured s.channels[c]
  channelCounts : ∀ c : ChannelId, t.channels[c].counts = s.channels[c].counts
  link : { t.link with alarms := s.link.alarms, custody := s.link.custody, counts := s.link.counts } = s.link
  waiting : noneWaiting s → noneWaiting t
  zoneLatched : ∀ z : ZoneId, ZoneLatched s z → ZoneLatched t z

/-- The notices of the restore key and of a zone that it cleared. -/
def Notice.restores : Notice → Bool
  | .zoneRestore | .zoneCleared _ | .chamberCleared _ | .chamberRestore => true
  | _ => false

/-- What the hand-ons of every command but the restore key leave alone: a CONFIRMED zone, what confirmed it and its
stopped persistence timers (R102, R107), its latch (R116), and the FLOOD (R134). -/
structure FireFrame (s t : State) : Prop where
  cfg : t.cfg = s.cfg
  zones : ∀ z : ZoneId, s.zones.zones[z].status = .confirmed →
    t.zones.zones[z].status = .confirmed ∧ t.zones.zones[z].confirming = s.zones.zones[z].confirming
      ∧ t.zones.zones[z].basis = s.zones.zones[z].basis ∧ t.zones.zones[z].confirmTime = s.zones.zones[z].confirmTime
      ∧ t.zones.zones[z].counts = s.zones.zones[z].counts
  persist : ∀ (z : ZoneId) (p : PointId), zoneOfNumber s.cfg.points[p].zone = some z →
    s.zones.zones[z].status = .confirmed → s.zones.persist[p] = none → t.zones.persist[p] = none
  zoneLatched : ∀ z : ZoneId, ZoneLatched s z → ZoneLatched t z
  flood : s.chamber.state = .flood →
    t.chamber.state = .flood ∧ t.chamber.purgeOpen = s.chamber.purgeOpen ∧ t.chamber.floodOpen = s.chamber.floodOpen

/-! ## Which parts of the state a command reaches -/

/-- Every part of the state. -/
def allBlocks : List Block :=
  [.pending, .pins, .loader, .cfg, .clock, .custody, .handoff, .channels, .points, .scanner, .zones, .hazard, .chamber,
   .rotor, .feed, .peers, .link, .tally, .responder]

/-- The parts of the state that a command, with its hand-ons, can change. Never the queue. -/
def reach : Instr → List Block
  | .powerOnReset => allBlocks.filter fun b => b != .pending && b != .pins
  | .pinReset => allBlocks.filter fun b => b != .pending && b != .tally
  | .resetRelease _ => [.pins, .loader, .clock]
  | .imageReadAttempt _ => [.loader, .cfg, .points, .zones, .hazard, .link]
  | .joinCompletion .. => [.loader, .points, .scanner, .hazard, .link]
  | .baselineEnd _ => [.pins, .peers, .tally] ++ handOnBlocks
  | .entryRise .. | .restoreRise _ | .connRise .. | .connFall .. | .rotorPulse _ => .pins :: handOnBlocks
  | .removeRise _ | .throatPulse _ => [.pins, .tally] ++ handOnBlocks
  | .measurementSample .. | .restTimerExpiry _ | .dischargeTimeExpiry _ | .pointScan .. | .pulseWindowEnd _
  | .testTimerExpiry | .releaseEnd | .testIntervalExpiry | .zoneWindowExpiry _ | .persistenceExpiry _
  | .stopBurstDetected _ | .stopHoldExpiry | .transitTimerExpiry | .offerReceived | .acceptReceived
  | .arrivedReceived | .bitError _ | .frameError _ | .settleTimerExpiry | .purgeTimerExpiry | .stallTimerExpiry
  | .feedTimerExpiry => handOnBlocks
  | .pulseEdge .. => [.pins, .points]
  | .replyTimerExpiry => [.custody, .handoff]
  | .refuseReceived => [.custody, .handoff, .link]
  | .withdrawReceived => [.handoff, .link]
  | .retryTimerExpiry => handOnBlocks
  | .exitGateExpiry => [.handoff]
  | .adriftExpiry _ | .missingReceived => .tally :: handOnBlocks
  | .statusReceived | .alarmReceived | .duplicateStation | .staleTimerExpiry _ | .silentTimerExpiry _
  | .graceTimerExpiry => .peers :: handOnBlocks
  | .reportReceived | .stopBurstEnd _ | .transmitAttempt | .telegramSent _ | .arbitrationLost _ | .linkIdle _ => [.link]
  | .stationStatusTimerExpiry | .frameReceived _ => [.link, .hazard]
  | .identify | .counters | .custody | .peer | .point | .zone | .channel | .cause | .chamber | .tally
  | .queryUndefinedItem => [.link, .responder]
  | .turn => [.link, .responder, .tally]

end Sys2Proof.Machine
end

