-- ==== Sys2Proof/Certificates/Slice0/Obligations.lean ====
section
/-! DEFINITION. The statements about the SC-40 for the provers. `HandOnFrame`, `CalmFrame` and `FireFrame` (Safety.lean) say
what the hand-ons that follow a command's own effect leave alone. -/

open Sys2Proof Sys2Proof.Machine

/-! ## The block as a whole -/

/-- A step takes the command at the front of the queue and runs it with the queue's rest. -/
def Obligations.StepRunsFrontCommand : Prop :=
  ∀ (c : Instr) (rest : List Instr) (s : State), s.pending = c :: rest → step s = exec c { s with pending := rest }

/-- With no command waiting a step is one millisecond (DESIGN CHOICE, logs 1 and 2): held in reset nothing changes;
otherwise the clock counts, every running timer loses a millisecond, the discharge times (R60) and the totals of R137 count,
the expiry command of every timer that runs out, and no other command, comes to the queue, and nothing else changes. A
discharge time already at T_max when it starts to run again runs out with this millisecond (log 39). -/
def Obligations.IdleStepCountsOneMillisecond : Prop :=
  ∀ s : State, s.pending = [] →
    (s.loader.held = true → step s = .next s) ∧
    (s.loader.held = false → ∃ t, step s = .next t ∧
      let less := fun timer : Timer => timer.map (· - 1)
      let total := fun (counts : Bool) (x : TimeTotal) => if counts then ⟨x.session + 1, x.lifetime + 1⟩ else x
      (∀ c : Instr, c ∈ t.pending ↔ RanOut s c)
      ∧ t.clock = s.clock + 1
      ∧ t.loader = { s.loader with baselineTimer := less s.loader.baselineTimer }
      ∧ t.custody = { s.custody with list := s.custody.list.map fun e => { e with adrift := less e.adrift } }
      ∧ t.handoff = { s.handoff with reply := less s.handoff.reply, retry := less s.handoff.retry,
                                     gate := less s.handoff.gate, transit := less s.handoff.transit }
      ∧ (∀ c : ChannelId, t.channels[c] =
          { s.channels[c] with
            rest := less s.channels[c].rest,
            spent := if s.channels[c].state = .discharge ∨ s.channels[c].state = .held
              then min s.cfg.maxMs (s.channels[c].spent + 1) else s.channels[c].spent })
      ∧ (∀ p : PointId, t.points[p] = { s.points[p] with window := less s.points[p].window })
      ∧ t.scanner = { s.scanner with testTimer := less s.scanner.testTimer, releaseTimer := less s.scanner.releaseTimer,
                                     intervalTimer := less s.scanner.intervalTimer }
      ∧ (∀ z : ZoneId, t.zones.zones[z] =
          { s.zones.zones[z] with window := match s.zones.zones[z].window with
            | .running n => .running (n - 1)
            | w => w })
      ∧ (∀ p : PointId, t.zones.persist[p] = less s.zones.persist[p]) ∧ t.zones.members = s.zones.members
      ∧ t.hazard = { s.hazard with stopHold := less s.hazard.stopHold }
      ∧ t.chamber =
          { s.chamber with
            settle := less s.chamber.settle, purge := less s.chamber.purge,
            purgeTime := total s.chamber.purgeOpen s.chamber.purgeTime,
            floodTime := total s.chamber.floodOpen s.chamber.floodTime,
            exposure := total (s.rotor.run && s.cfg.o2Warn ≤ s.chamber.oxygen.getD 2501) s.chamber.exposure }
      ∧ t.rotor = { s.rotor with stall := less s.rotor.stall } ∧ t.feed = { s.feed with timer := less s.feed.timer }
      ∧ (∀ p : PeerId, t.peers.entries[p] =
          { s.peers.entries[p] with stale := less s.peers.entries[p].stale, silent := less s.peers.entries[p].silent })
      ∧ t.peers = { s.peers with entries := t.peers.entries, grace := less s.peers.grace }
      ∧ t.link = { s.link with statusTimer := less s.link.statusTimer }
      ∧ OnlyTouches [.pending, .clock, .loader, .custody, .handoff, .channels, .points, .scanner, .zones, .hazard,
          .chamber, .rotor, .feed, .peers, .link] s t)

/-- Every command answers a next state, in every state; it changes no part of the state outside those `reach` gives it, and
never the queue. -/
def Obligations.CommandsAnswerWithinTheirBlocks : Prop :=
  ∀ (c : Instr) (s : State), ∃ t, exec c s = .next t ∧ OnlyTouches (reach c) s t ∧ t.pending = s.pending

/-! ## Resets and start-up -/

/-- R24: the custody state after POR and after a pin reset. -/
def Obligations.ResetsClearCustody : Prop :=
  ∀ s : State,
    (∃ t, exec .powerOnReset s = .next t ∧ t.custody.list = [] ∧ t.handoff.expect = none ∧ t.custody.nextSerial = 1
      ∧ t.custody.orphanSeq = 0 ∧ t.custody.energy = 0
      ∧ t.custody.counts = ⟨⟨0, 0⟩, ⟨0, 0⟩, ⟨0, 0⟩, ⟨0, 0⟩, ⟨0, 0⟩, ⟨0, 0⟩, ⟨0, 0⟩, ⟨0, 0⟩, ⟨0, 0⟩, ⟨0, 0⟩, ⟨0, 0⟩,
          ⟨0, 0⟩, ⟨0, 0⟩, ⟨0, 0⟩⟩) ∧
    (∃ t, exec .pinReset s = .next t ∧ t.custody.list = [] ∧ t.handoff.expect = none ∧ t.custody.nextSerial = 1
      ∧ t.custody.orphanSeq = 0 ∧ t.custody.energy = s.custody.energy
      ∧ t.custody.counts =
          ⟨⟨0, s.custody.counts.intake.lifetime⟩, ⟨0, s.custody.counts.arrived.lifetime⟩,
           ⟨0, s.custody.counts.orphan.lifetime⟩, ⟨0, s.custody.counts.handed.lifetime⟩,
           ⟨0, s.custody.counts.lost.lifetime⟩, ⟨0, s.custody.counts.shredded.lifetime⟩,
           ⟨0, s.custody.counts.removed.lifetime⟩, ⟨0, s.custody.counts.refusalsSent.lifetime⟩,
           ⟨0, s.custody.counts.refusalsReceived.lifetime⟩, ⟨0, s.custody.counts.withdrawals.lifetime⟩,
           ⟨0, s.custody.counts.strayArrived.lifetime⟩, ⟨0, s.custody.counts.strayMissing.lifetime⟩,
           ⟨0, s.custody.counts.strayRemovals.lifetime⟩, ⟨0, s.custody.counts.overflows.lifetime⟩⟩)

/-- R186, R194: both resets hold the part in reset with every output at its LOAD value. A POR leads to `State.reset` but for
the queue and the filtered inputs, whose values there, like those the spec gives no reset value for, are the model's choice
(log 5; held in reset, log 3). A pin reset keeps the tally log and every lifetime count, shown here for the rotor, the
chamber, a zone and the link; of the filtered inputs RSTn alone is touched: it reads low (log 7). -/
def Obligations.ResetsSetOutputsSafe : Prop :=
  ∀ s : State,
    exec .powerOnReset s = .next { State.reset with pending := s.pending, pins := s.pins } ∧
    (∃ t, exec .pinReset s = .next t ∧ t.pins = { s.pins with rstn := ⟨false, false⟩ }
      ∧ t.pending = s.pending ∧ t.loader = State.reset.loader ∧ t.cfg = State.reset.cfg ∧ t.clock = 0
      ∧ t.handoff = State.reset.handoff ∧ t.scanner = State.reset.scanner
      ∧ (∀ c : ChannelId, t.channels[c].state = .empty ∧ t.channels[c].load = 0)
      ∧ t.chamber.state = .inactive ∧ t.chamber.purgeOpen = false ∧ t.chamber.floodOpen = false
      ∧ t.rotor.run = false ∧ t.feed.gate = false ∧ t.hazard.safe = false ∧ t.hazard.alert = false
      ∧ t.link.ltx = .recessive ∧ t.link.on = false ∧ t.link.rx = [] ∧ t.link.alarms = [] ∧ t.link.custody = []
      ∧ t.tally = s.tally
      ∧ t.rotor.starts = ⟨0, s.rotor.starts.lifetime⟩ ∧ t.chamber.floods = ⟨0, s.chamber.floods.lifetime⟩
      ∧ t.chamber.purgeTime = ⟨0, s.chamber.purgeTime.lifetime⟩
      ∧ (∀ z : ZoneId, t.zones.zones[z].counts.confirmations = ⟨0, s.zones.zones[z].counts.confirmations.lifetime⟩)
      ∧ t.link.counts.sent = ⟨0, s.link.counts.sent.lifetime⟩)

/-- The values that the spec gives after power-on reset hold in `State.reset`: R49, R67, R80, R147, R160, R175, R180,
R185. -/
def Obligations.ResetStateHoldsSpecValues : Prop :=
  State.reset.loader.phase = .load
    ∧ (∀ c : ChannelId, State.reset.channels[c].state = .empty ∧ State.reset.channels[c].peak = -400
        ∧ State.reset.channels[c].minVolts = 65535 ∧ State.reset.channels[c].charge = 0)
    ∧ State.reset.handoff.offer = none ∧ State.reset.handoff.expect = none ∧ State.reset.handoff.exitGate = false
    ∧ State.reset.chamber.state = .inactive ∧ State.reset.chamber.oxygen = none ∧ State.reset.rotor.run = false
    ∧ State.reset.feed.gate = false ∧ State.reset.hazard.station = .clear ∧ State.reset.hazard.line = .clear
    ∧ State.reset.hazard.safe = false
    ∧ (∀ p : PeerId, State.reset.peers.entries[p].freshness = .silent ∧ State.reset.peers.entries[p].free = 0)
    ∧ State.reset.link.state = .unjoined ∧ State.reset.link.nextSeq = 0 ∧ State.reset.link.fresh = true
    ∧ State.reset.tally.filling = .a ∧ State.reset.tally.bankA = [] ∧ State.reset.tally.bankB = []
    ∧ State.reset.tally.due = false ∧ State.reset.responder.snapshot = none ∧ State.reset.responder.number = 0

/-- R1, R186: the release of a reset, RSTn at its high level after the samples, reads the straps at their filtered levels,
discards the image and starts the clock at 0. That a reset is held until then is the model's reading (log 3), and with none
held, or with RSTn low, only the filters take their samples (DESIGN CHOICE, log 8). -/
def Obligations.ResetReleaseBeginsLoad : Prop :=
  ∀ (rstn : List Bool) (straps : List (BitVec 5)) (s : State),
    let pins := { s.pins with rstn := s.pins.rstn.run rstn, straps := runGroup s.pins.straps straps }
    (s.loader.held = true → pins.rstn.level = true → exec (.resetRelease ⟨rstn, straps⟩) s = .next
      { s with clock := 0, pins := pins,
               loader := { s.loader with held := false, phase := .load, attempts := 0, image := none, finding := none,
                                         clamped := false,
                                         own := (levelsOf (runGroup s.pins.straps straps)).toNat } }) ∧
    (∀ k : Fin 5, (levelsOf (runGroup s.pins.straps straps)).getLsbD k
      = (s.pins.straps[k].run (straps.map fun x => x.getLsbD k)).level) ∧
    (s.loader.held = false ∨ pins.rstn.level = false →
      exec (.resetRelease ⟨rstn, straps⟩) s = .next { s with pins := pins })

/-- R187, R188: an image read in LOAD, by its CRC and the fatal checks: retried twice (the SPI signals of the attempt with
it), then FAULTED with "no image";
FAULTED with "station mismatch" or "bad role"; or accepted, with the configuration in force and JOIN entered. -/
def Obligations.ImageReadDecidesStart : Prop :=
  ∀ (bytes : List Byte) (s : State), s.loader.held = false → s.loader.phase = .load → s.loader.image = none →
    (imageGood bytes = false → s.loader.attempts + 1 < 3 →
      exec (.imageReadAttempt bytes) s = .next { s with loader :=
        { s.loader with
          attempts := s.loader.attempts + 1,
          spi := [.csn false, .sent 0x03, .sent 0x00, .sent 0x00, .clockedIn 512, .csn true] } }) ∧
    (imageGood bytes = false → 3 ≤ s.loader.attempts + 1 → ∃ t, exec (.imageReadAttempt bytes) s = .next t
      ∧ t.loader.phase = .faulted ∧ t.loader.finding = some .noImage ∧ t.link.on = (s.loader.own != 0)
      ∧ t.loader.spi = readSignals) ∧
    (imageGood bytes = true → (s.loader.own = 0 ∨ imageNat 0 1 bytes ≠ s.loader.own) →
      ∃ t, exec (.imageReadAttempt bytes) s = .next t
        ∧ t.loader.phase = .faulted ∧ t.loader.finding = some .stationMismatch) ∧
    (imageGood bytes = true → s.loader.own ≠ 0 → imageNat 0 1 bytes = s.loader.own → imageRole bytes = none →
      ∃ t, exec (.imageReadAttempt bytes) s = .next t
        ∧ t.loader.phase = .faulted ∧ t.loader.finding = some .badRole) ∧
    (imageGood bytes = true → s.loader.own ≠ 0 → imageNat 0 1 bytes = s.loader.own →
      ∀ role, imageRole bytes = some role → ∃ t, exec (.imageReadAttempt bytes) s = .next t
        ∧ t.loader.phase = .join ∧ t.loader.image = some bytes ∧ t.cfg = (checkImage role s.loader.own bytes).1
        ∧ t.loader.clamped = (checkImage role s.loader.own bytes).2 ∧ t.link.on = true ∧ t.link.state = .unjoined)

/-- R46, R79, R81, R92, R100, R117, R130, R155, R189: the configuration that CHECK leaves in force, whatever the image: every
number in its range (times in ms), its orders as R79, R81 and R130 have them, no test line and no point twice, no downstream
and no listen entry naming the station itself, and the fixed levels of ZONE_CONFIRMED and LINE_STOP. -/
def Obligations.CheckOrdersConfiguration : Prop :=
  ∀ (role : Role) (own : Nat) (img : List Byte), own ≠ 0 →
    let c := (checkImage role own img).1
    (50 ≤ c.statusMs ∧ c.statusMs ≤ 1000 ∧ c.primary ≤ 31 ∧ c.quarantine ≤ 31 ∧ c.primary ≠ own ∧ c.quarantine ≠ own
      ∧ (role = .shredder ∨ role = .quarantine → c.primary = 0 ∧ c.quarantine = 0)) ∧
    (20 ≤ c.replyMs ∧ c.replyMs ≤ 2000 ∧ 100 ≤ c.retryMs ∧ c.retryMs ≤ 60000 ∧ 100 ≤ c.gateMs ∧ c.gateMs ≤ 10000
      ∧ 1000 ≤ c.transitMs ∧ c.transitMs ≤ 600000 ∧ c.acceptVolts ≤ 65535) ∧
    (1 ≤ c.tm ∧ c.tm ≤ 100 ∧ c.vPresent ≤ 65535 ∧ c.vEnd ≤ 65535 ∧ 1 ≤ c.nEnd ∧ c.nEnd ≤ 255 ∧ c.iMin ≤ 32767
      ∧ 1000 ≤ c.noRespMs ∧ c.noRespMs ≤ 600000 ∧ 60000 ≤ c.maxMs ∧ c.maxMs ≤ 86400000
      ∧ 1000 ≤ c.restMs ∧ c.restMs ≤ 3600000 ∧ c.vSafe ≤ 65535 ∧ c.rMax ≤ 7
      ∧ -400 ≤ c.tKnee ∧ c.tKnee ≤ 1999 ∧ -399 ≤ c.tCut ∧ c.tCut ≤ 2000 ∧ c.tKnee < c.tCut
      ∧ 1 ≤ c.pMax ∧ c.pMax ≤ 65535 ∧ c.dMin ≤ 64
      ∧ ∀ k : ChannelId, c.channels[k].zone ≤ 4 ∧ 100 ≤ c.channels[k].rLoad ∧ c.channels[k].rLoad ≤ 65535) ∧
    (∀ p : PointId, c.points[p].zone ≤ 4
      ∧ (c.points[p].kind ≠ .disabled → c.points[p].warn ≤ c.points[p].alarm ∧ c.points[p].low ≤ c.points[p].high)
      ∧ (p.val < 8 → c.points[p].kind ≠ .flame ∧ c.points[p].kind ≠ .spark ∧ c.points[p].warn ≤ 65535
          ∧ c.points[p].alarm ≤ 65535 ∧ c.points[p].hyst ≤ 65535 ∧ 1 ≤ c.points[p].span ∧ c.points[p].span ≤ 60
          ∧ (c.points[p].kind = .heat → -32768 ≤ c.points[p].low ∧ c.points[p].high ≤ 32767)
          ∧ (c.points[p].kind = .oxygen → 0 ≤ c.points[p].low ∧ c.points[p].high ≤ 2500)
          ∧ (c.points[p].kind = .vapour → 0 ≤ c.points[p].low ∧ c.points[p].high ≤ 65535))
      ∧ (8 ≤ p.val → (c.points[p].kind = .disabled ∨ c.points[p].kind = .flame ∨ c.points[p].kind = .spark)
          ∧ 1 ≤ c.points[p].warn ∧ c.points[p].warn ≤ 255 ∧ 1 ≤ c.points[p].alarm ∧ c.points[p].alarm ≤ 255
          ∧ 1 ≤ c.points[p].span ∧ c.points[p].span ≤ 10)) ∧
    (∀ z : ZoneId, 1000 ≤ c.zones[z].windowMs ∧ c.zones[z].windowMs ≤ 60000 ∧ c.zones[z].persistMs ≤ 600000) ∧
    ((∀ k l : Fin 4, c.testLines[k] = c.testLines[l] → c.testLines[k] ≠ 0 → k = l)
      ∧ (∀ k : Fin 4, c.testLines[k] ≤ 12) ∧ 1000 ≤ c.testMs ∧ c.testMs ≤ 120000 ∧ 1000 ≤ c.releaseMs
      ∧ c.releaseMs ≤ 60000 ∧ c.intervalMs ≤ 604800000) ∧
    (c.levels[Cause.index .zoneConfirmed] = .high ∧ c.levels[Cause.index .lineStop] = .high
      ∧ 1000 ≤ c.stopHoldMs ∧ c.stopHoldMs ≤ 60000) ∧
    (c.listen.length = 6 ∧ ∀ e ∈ c.listen, e.station ≠ own ∧ e.station ≤ 31 ∧ e.zone ≤ 4) ∧
    (c.chamberZone ≤ 4 ∧ c.o2Run < c.o2Warn ∧ c.o2Warn < c.o2Alarm ∧ c.o2Alarm ≤ 2500
      ∧ 1000 ≤ c.settleMs ∧ c.settleMs ≤ 600000 ∧ 10000 ≤ c.purgeMs ∧ c.purgeMs ≤ 3600000
      ∧ 100 ≤ c.stallMs ∧ c.stallMs ≤ 10000 ∧ 1 ≤ c.labourMs ∧ c.labourMs ≤ 10000
      ∧ 1000 ≤ c.feedMs ∧ c.feedMs ≤ 120000 ∧ 1 ≤ c.watermark ∧ c.watermark ≤ 32)

/-- R163, R171, R190: join completion with nothing in the STATUS slot: IDLE, the first STATUS with the next sequence
number and the fresh-start flag as armed, the status timer; from JOIN the first scan is made and the start-up round begins,
or with no test-enabled point the BASELINE phase. The first STATUS is built before the phase changes and so carries JOIN
(DEDUCED, log 18). -/
def Obligations.JoinCompletionSendsFirstStatus : Prop :=
  ∀ (bits : List Bool) (readings : Vector Int 8) (s : State), s.link.on = true → s.link.state = .unjoined →
    reachesRecessive 12 s.link.recessive bits = true → s.link.status = none →
    ∃ t, exec (.joinCompletion bits readings) s = .next t
      ∧ t.link.state = .idle ∧ t.link.statusTimer = some s.cfg.statusMs
      ∧ t.link.status = some ⟨⟨s.loader.own, 0, .status { statusFields s with seq := s.link.nextSeq }⟩, 0⟩
      ∧ (statusFields s).phase = s.loader.phase
      ∧ t.link.nextSeq = (s.link.nextSeq + 1) % 256 ∧ t.link.fresh = false ∧ t.hazard.flags = .clear
      ∧ (s.loader.phase ≠ .join → t.loader = s.loader ∧ t.scanner = s.scanner)
      ∧ (s.loader.phase = .join →
          (t.loader.phase = .test ∧ (∃ r, t.scanner.round = some r ∧ r.startup = true)
            ∨ t.loader.phase = .baseline ∧ t.loader.baselineTimer = some 160 ∧ t.scanner.round = none)
          ∧ (∀ a : AnalogueId, s.cfg.points[analoguePoint a].kind ≠ .disabled →
              t.points[analoguePoint a].reading = some (holdReading s.cfg.points[analoguePoint a].kind readings[a]))
          ∧ ((∀ p : PointId, testEnabled s.cfg p = false) → t.loader.phase = .baseline))

/-- R13, R14, R190, R191: the end of BASELINE is RUN entry: the converters' readings taken, the grace timer started (R157). At a
DISCHARGE station each channel with CONN asserted, A before B before C before D, takes an orphan: while the list is empty and
the expectation closed, as they are before RUN, these orphans are the list, with the next values of the orphan sequence, of
class UNKNOWN, each IN_CHANNEL on its channel; they are counted and raise CUSTODY_DISCREPANCY. R85: a BASELINE point's baseline
is the mean of the readings in band, truncated toward zero, and its level is worked out afresh; with none in band its no-baseline
fault is set (no round stands, as the start law has it before RUN). R131: a SHREDDER's chamber enters PURGE, or FLOOD where a zone is CONFIRMED (given first for the controller's own
RUN entry, then for all of it); elsewhere the chamber stays as it was. -/
def Obligations.BaselineEndEntersRun : Prop :=
  (∀ (volts : Vector Nat 4) (s : State), s.loader.phase = .baseline → s.loader.baselineTimer = some 0 →
    noStartupRound s → ∃ t, exec (.baselineEnd volts) s = .next t
      ∧ t.loader.phase = .run ∧ t.loader.baselineTimer = none
      ∧ t.pins = { s.pins with vsns := volts.map holdVolts }
      ∧ t.peers = { s.peers with grace := some (4 * s.cfg.statusMs) }
      ∧ (s.cfg.role = .shredder → t.chamber.purgeOpen = true ∧ t.chamber.oxygen = chamberOxygen t
          ∧ t.chamber.state = (if (∃ z : ZoneId, t.chamber.confirmed[z] = true) then .flood else .purge))
      ∧ (s.cfg.role ≠ .shredder → t.chamber = s.chamber)
      ∧ (s.scanner.round = none → ∀ a : AnalogueId, s.cfg.points[analoguePoint a].kind ≠ .disabled →
          s.cfg.points[analoguePoint a].mode = .baseline →
          let k := s.cfg.points[analoguePoint a]
          let before := s.points[analoguePoint a]
          let after := t.points[analoguePoint a]
          (before.baseCount = 0 → after.noBaseline = true ∧ after.level = before.level
            ∧ after.baseline = before.baseline ∧ after.reported = .fault) ∧
          (before.baseCount ≠ 0 → before.provisional = none →
            let mean := before.baseSum.tdiv before.baseCount
            after.baseline = some mean ∧ after.noBaseline = before.noBaseline
            ∧ (∀ r, before.reading = some r → k.low ≤ r → r ≤ k.high →
                after.compare = some (r - mean) ∧ after.level = nextLevel k .normal (r - mean))))
      ∧ HazardLaw t ∧ OutputLaw t
      ∧ (s.cfg.role ≠ .discharge → t.custody.list.map Entry.identity = s.custody.list.map Entry.identity
          ∧ t.custody.counts.orphan = s.custody.counts.orphan)
      ∧ (s.cfg.role = .discharge →
          let connected := allChannels.filter fun c => s.pins.conn[c].level
          let n := connected.length
          t.custody.list.length = s.custody.list.length + n
          ∧ t.custody.counts.orphan = ⟨s.custody.counts.orphan.session + BitVec.ofNat 32 n,
              s.custody.counts.orphan.lifetime + BitVec.ofNat 32 n⟩
          ∧ (0 < n → Latched t .custody)
          ∧ (s.custody.list = [] → s.handoff.expect = none → s.custody.orphanSeq ≤ 8388607 →
              let token := fun i : Nat => (⟨s.loader.own, 8388608 + (s.custody.orphanSeq + i) % 8388608⟩ : Token)
              t.custody.list.map Entry.identity
                = (List.range n).map (fun i => (token i, .unknown, false, 0, true, s.clock))
              ∧ t.custody.orphanSeq = (s.custody.orphanSeq + n) % 8388608
              ∧ ∀ c : ChannelId, s.pins.conn[c].level = true → t.channels[c].state ≠ .empty
                  ∧ t.channels[c].token = some (token (connected.filter fun d => d.val < c.val).length)))) ∧
  (∀ s : State, s.cfg.role = .discharge → s.custody.list = [] → s.handoff.expect = none →
    (orphansAtRunEntry s).1.custody.list.map (fun e => (e.state, e.channel))
      = (allChannels.filter fun c => s.pins.conn[c].level).map fun c => (.inChannel, some c)) ∧
  (∀ s : State, s.running → s.cfg.role = .shredder →
    let oxygen := chamberOxygen s
    let t := (chamberAtRunEntry s).1
    ((∀ z : ZoneId, s.chamber.confirmed[z] = false) →
      t.chamber = { s.chamber with
        state := .purge, oxygen := oxygen, purgeOpen := true, floodOpen := false, purge := some s.cfg.purgeMs,
        settle := if oxygen.getD 2501 ≤ s.cfg.o2Run then some s.cfg.settleMs else none,
        o2High := decide (s.cfg.o2Alarm ≤ oxygen.getD 2501) || s.chamber.overrun }) ∧
    ((∃ z : ZoneId, s.chamber.confirmed[z] = true) →
      t.chamber = { s.chamber with
        state := .flood, oxygen := oxygen, purgeOpen := true, floodOpen := true, purge := none, settle := none,
        overrun := false, floods := s.chamber.floods.bump, o2High := decide (s.cfg.o2Alarm ≤ oxygen.getD 2501) }))

/-! ## Pack custody -/

/-- R10, R12, R39: an ENTRY rise in RUN with the expectation open is an arrival: the expectation becomes an entry at the
tail, the timer stops, the arrived count rises, and ARRIVED is queued where a custody slot is free. The new entry, as the
arrival leaves it before the hand-ons of the event, has the expectation's whole record, its summary, marks and MARKS_OVERFLOW
with it, and is WAITING at a DISCHARGE station, READY elsewhere. -/
def Obligations.EntryRiseTakesArrival : Prop :=
  ∀ (samples : List Bool) (cls : List (BitVec 3)) (dmg : List Bool) (s : State) (x : Expectation), s.running →
    s.pins.entry.rises samples = true → s.handoff.expect = some x →
    ∃ t, exec (.entryRise samples cls dmg) s = .next t
      ∧ t.pins = { s.pins with entry := s.pins.entry.run samples, cls := runGroup s.pins.cls cls,
                               dmg := s.pins.dmg.run dmg }
      ∧ t.handoff.expect = none ∧ t.handoff.transit = none
      ∧ t.custody.list.map Entry.identity = s.custody.list.map Entry.identity
          ++ [(x.pack.token, x.pack.cls, x.pack.damaged, x.pack.hops, x.pack.orphan, s.clock)]
      ∧ t.custody.counts.arrived = ⟨s.custody.counts.arrived.session + 1, s.custody.counts.arrived.lifetime + 1⟩
      ∧ t.custody.counts.intake = s.custody.counts.intake ∧ t.custody.counts.orphan = s.custody.counts.orphan
      ∧ (s.link.custody.length < 4 →
          s.link.custody ++ [⟨⟨s.loader.own, x.offering, .arrived x.pack.token⟩, 0⟩] <+: t.link.custody)
      ∧ (takeEntry s).1.custody.list = s.custody.list ++
          [{ pack := x.pack, state := if s.cfg.role = .discharge then .waiting else .ready, entered := s.clock,
             channel := none, refusal := none, target := 0, adrift := none, restart := false }]

/-- R10, R11, R13: an ENTRY rise in RUN with the expectation closed: a full station counts an overflow and raises
CUSTODY_DISCREPANCY; otherwise an INTAKE station takes a new pack with the class and damage that the pins give at their filtered levels (R1, R4),
and a station of another role makes an orphan and raises CUSTODY_DISCREPANCY. The new entry, as the event leaves it before its
hand-ons, holds no summary and no mark and is WAITING at a DISCHARGE station, READY elsewhere. -/
def Obligations.EntryRiseMakesEntry : Prop :=
  ∀ (samples : List Bool) (cls : List (BitVec 3)) (dmg : List Bool) (s : State), s.running →
    s.pins.entry.rises samples = true → s.handoff.expect = none →
    ∃ t, exec (.entryRise samples cls dmg) s = .next t
      ∧ t.pins = { s.pins with entry := s.pins.entry.run samples, cls := runGroup s.pins.cls cls,
                               dmg := s.pins.dmg.run dmg }
      ∧ t.handoff.expect = none ∧ t.tally = s.tally
      ∧ (16 ≤ s.custody.list.length →
          t.custody.list.map Entry.identity = s.custody.list.map Entry.identity
          ∧ t.custody.counts.overflows = s.custody.counts.overflows.bump ∧ Latched t .custody)
      ∧ (s.custody.list.length < 16 → s.cfg.role = .intake →
          t.custody.list.map Entry.identity = s.custody.list.map Entry.identity
            ++ [(⟨s.loader.own, allocIntake s⟩, PackClass.ofPins (levelsOf (runGroup s.pins.cls cls)),
                (s.pins.dmg.run dmg).level, 0, false, s.clock)]
          ∧ t.custody.nextSerial = nextIntake (allocIntake s)
          ∧ t.custody.counts.intake = s.custody.counts.intake.bump)
      ∧ (s.custody.list.length < 16 → s.cfg.role ≠ .intake →
          t.custody.list.map Entry.identity = s.custody.list.map Entry.identity
            ++ [(⟨s.loader.own, 8388608 + allocOrphan s⟩, .unknown, false, 0, true, s.clock)]
          ∧ t.custody.orphanSeq = nextOrphan (allocOrphan s)
          ∧ t.custody.counts.orphan = s.custody.counts.orphan.bump ∧ Latched t .custody)
      ∧ (s.custody.list.length < 16 →
          let serial := if s.cfg.role = .intake then allocIntake s else 8388608 + allocOrphan s
          (takeEntry s).1.custody.list = s.custody.list ++
            [{ pack := { token := ⟨s.loader.own, serial⟩,
                         cls := if s.cfg.role = .intake then PackClass.ofPins (levelsOf s.pins.cls) else .unknown,
                         damaged := if s.cfg.role = .intake then s.pins.dmg.level else false,
                         hops := 0, summary := none, marks := [], overflow := false,
                         orphan := decide (s.cfg.role ≠ .intake) },
               state := if s.cfg.role = .discharge then .waiting else .ready, entered := s.clock,
               channel := none, refusal := none, target := 0, adrift := none, restart := false }])

/-- R5, R6, R9: while no more than 16 packs are held, the serials that intake and orphan allocation give are held by no
entry and by no open expectation, whatever the origin of the token that holds them, and stand in their ranges. -/
def Obligations.AllocatedTokensAreFree : Prop :=
  ∀ s : State, CapacityLaw s →
    (∀ t ∈ heldTokens s, t.serial ≠ allocIntake s ∧ t.serial ≠ 8388608 + allocOrphan s)
      ∧ (1 ≤ s.custody.nextSerial → s.custody.nextSerial ≤ 8388607 → 1 ≤ allocIntake s ∧ allocIntake s ≤ 8388607)
      ∧ (s.custody.orphanSeq ≤ 8388607 → allocOrphan s ≤ 8388607)

/-- R20, R22, R177: a REMOVE rise in RUN takes the oldest WAITING or READY entry (at a SHREDDER the oldest READY entry not
eligible for feed) out of the list, counts it removed and appends its record to a filling bank with room; with no such
entry the removal is stray. -/
def Obligations.RemoveRiseTakesOldest : Prop :=
  ∀ (samples : List Bool) (s : State), s.running → s.pins.remove.rises samples = true →
    (∀ e, (if s.cfg.role = .shredder then s.custody.list.find? (fun e => e.state == .ready && !eligible e.pack)
           else s.custody.list.find? fun e => e.state == .waiting || e.state == .ready) = some e →
      ∃ t, exec (.removeRise samples) s = .next t ∧ t.pins = { s.pins with remove := s.pins.remove.run samples }
        ∧ t.custody.list.map Entry.identity
            = (s.custody.list.filter fun e' => e'.pack.token != e.pack.token).map Entry.identity
        ∧ t.custody.counts.removed = s.custody.counts.removed.bump
        ∧ ((Tally.fillingBank s.tally).length < 32 → Tally.fillingBank t.tally = Tally.fillingBank s.tally ++
            [{ token := e.pack.token, cls := e.pack.cls, damaged := e.pack.damaged, outcome := .removed,
               verdict := e.pack.summary.map (·.verdict), energy := (e.pack.summary.map (·.energy)).getD 0,
               hops := e.pack.hops, marks := e.pack.marks.length, overflow := e.pack.overflow, peak := none,
               time := s.clock, dwell := (s.clock - e.entered).toNat / 1000 }])
        ∧ (32 ≤ (Tally.fillingBank s.tally).length →
            t.tally = { s.tally with dropped := s.tally.dropped + 1 })) ∧
    ((if s.cfg.role = .shredder then s.custody.list.find? (fun e => e.state == .ready && !eligible e.pack)
      else s.custody.list.find? fun e => e.state == .waiting || e.state == .ready) = none →
      ∃ t, exec (.removeRise samples) s = .next t ∧ t.tally = s.tally
        ∧ t.custody.list.map Entry.identity = s.custody.list.map Entry.identity
        ∧ t.custody.counts.strayRemovals = s.custody.counts.strayRemovals.bump)

/-- R21, R143: a THROAT pulse at a SHREDDER in RUN consumes the FEEDING entry with the oxygen peak of its feed, else the
oldest eligible READY entry with the chamber oxygen as it stands, else it makes and consumes an orphan and raises
CUSTODY_DISCREPANCY. -/
def Obligations.ThroatPulseConsumesPack : Prop :=
  ∀ (samples : List Bool) (s : State), s.running → s.cfg.role = .shredder → s.pins.throat.rises samples = true →
    ∃ t, exec (.throatPulse samples) s = .next t ∧ t.pins = { s.pins with throat := s.pins.throat.run samples }
      ∧ t.custody.counts.shredded = s.custody.counts.shredded.bump
      ∧ (∀ e, feedingEntry s = some e →
          t.custody.list.map Entry.identity
            = (s.custody.list.filter fun e' => e'.pack.token != e.pack.token).map Entry.identity
          ∧ t.tally = (appendRecord (tallyRecord e.pack e.entered .shredded s.feed.peak s) s).tally)
      ∧ (∀ e, feedingEntry s = none → feedCandidate s = some e →
          t.custody.list.map Entry.identity
            = (s.custody.list.filter fun e' => e'.pack.token != e.pack.token).map Entry.identity
          ∧ t.tally
            = (appendRecord (tallyRecord e.pack e.entered .shredded (some (oxygenValue s.chamber.oxygen)) s) s).tally)
      ∧ (feedingEntry s = none → feedCandidate s = none →
          t.custody.list.map Entry.identity = s.custody.list.map Entry.identity
          ∧ t.tally = (appendRecord (tallyRecord (orphanRecord s.loader.own (allocOrphan s)) s.clock .orphanShredded
              none s) s).tally
          ∧ t.custody.counts.orphan = s.custody.counts.orphan.bump ∧ Latched t .custody)

/-- R110, R123: a RESTORE rise in RUN clears the latches of ROTOR_STALL and CUSTODY_DISCREPANCY, and that of THERMAL when every
channel is cool, and counts the restore; with a channel not cool THERMAL stays as it is. It clears the latch of LINK_FAULT too:
shown for the event itself, and at its end where at most two custody slots are taken, since its hand-ons may queue custody
telegrams and find the slots full. The restore key at a CONFIRMED zone:
with a member reporting ALARM the zone stays and the refusal is counted; otherwise it goes to QUIET, or to FAULT with no
healthy member, and what confirmed it is cleared. A zone that is not CONFIRMED is left as it is. -/
def Obligations.RestoreKeyClears : Prop :=
  (∀ (samples : List Bool) (s : State), s.running → s.pins.restore.rises samples = true →
    ∃ t, exec (.restoreRise samples) s = .next t ∧ t.pins = { s.pins with restore := s.pins.restore.run samples }
      ∧ t.hazard.restores = s.hazard.restores.bump
      ∧ t.hazard.causes[Cause.index .rotorStall].latch = false
      ∧ t.hazard.causes[Cause.index .rotorStall].active = false
      ∧ t.hazard.causes[Cause.index .custodyDiscrepancy].latch = false
      ∧ t.hazard.causes[Cause.index .custodyDiscrepancy].active = false
      ∧ (allCool s = true → t.hazard.causes[Cause.index .thermal].latch = false)
      ∧ (allCool s = false →
          t.hazard.causes[Cause.index .thermal].latch = s.hazard.causes[Cause.index .thermal].latch)
      ∧ (s.link.custody.length ≤ 2 → t.hazard.causes[Cause.index .linkFault].latch = false
          ∧ t.hazard.causes[Cause.index .linkFault].active = false)) ∧
  (∀ s : State, (takeRestore s).1.hazard.causes[Cause.index .linkFault].latch = false) ∧
  (∀ (z : ZoneId) (s : State),
    let u := (restoreZone z s).1.zones.zones[z]
    let r := s.zones.zones[z]
    (r.status ≠ .confirmed → u = r) ∧
    (r.status = .confirmed → (∃ p, alarmingMember s z = some p) →
      u = { r with counts := { r.counts with restoresRefused := r.counts.restoresRefused.bump } }) ∧
    (r.status = .confirmed → alarmingMember s z = none →
      u.status = (if 1 ≤ r.healthy then .quiet else .fault) ∧ u.confirming = none ∧ u.confirmTime = none
        ∧ u.basis = none ∧ u.heldPoint = none ∧ u.window = .none
        ∧ u.counts.restoresTaken = r.counts.restoresTaken.bump) ∧
    (∀ y : ZoneId, y ≠ z → (restoreZone z s).1.zones.zones[y] = s.zones.zones[y]))

/-! ## Discharge channels -/

/-- R53: a CONN rise at a channel in CONNECTING, with the input still high after the samples: below V_present the channel is
DONE with verdict OPEN; otherwise it keeps its pack, and with no round of self-tests in progress it stands in DISCHARGE or
HELD with its record as it was. The voltage judged is the latest sample's, or the converter's present reading with no
sample since RUN entry. R52: an EMPTY channel takes the oldest WAITING entry, its record cleared; with CONN low it is
CONNECTING, with CONN high the connect check follows (the present reading there is log 30's). Assignment goes by the
lowest letter until no WAITING entry or no EMPTY channel remains. -/
def Obligations.ConnRiseChecksVoltage : Prop :=
  (∀ (c : ChannelId) (samples : List Bool) (volts : Nat) (s : State), s.running → s.cfg.role = .discharge →
    s.pins.conn[c].rises samples = true → (s.pins.conn[c].run samples).level = true →
    s.channels[c].state = .connecting →
    ∃ t, exec (.connRise c samples volts) s = .next t
      ∧ t.pins.conn[c] = s.pins.conn[c].run samples ∧ t.pins.vsns[c] = min volts 65535
      ∧ ((if s.channels[c].sampled then s.channels[c].volts else min volts 65535) < s.cfg.vPresent →
          t.channels[c].state = .done ∧ t.channels[c].verdict = some .openCircuit ∧ t.channels[c].load = 0
          ∧ t.channels[c].counts.openCircuit = s.channels[c].counts.openCircuit.bump)
      ∧ (s.cfg.vPresent ≤ (if s.channels[c].sampled then s.channels[c].volts else min volts 65535) →
          t.channels[c].state ≠ .empty
          ∧ (s.calm → (t.channels[c].state = .discharge ∨ t.channels[c].state = .held)
              ∧ Channel.measured t.channels[c] = Channel.measured s.channels[c]))) ∧
  (∀ (c : ChannelId) (s : State),
    let t := (assignOne c s).1
    (∀ e, s.channels[c].state = .empty → s.custody.list.find? (·.state == .waiting) = some e →
      findEntry s e.pack.token = some e →
      t.channels[c].token = some e.pack.token
      ∧ (∀ x ∈ t.custody.list, x.pack.token = e.pack.token → x.state = .inChannel ∧ x.channel = some c)
      ∧ (∀ d : ChannelId, d ≠ c → t.channels[d] = s.channels[d])
      ∧ (s.pins.conn[c].level = false →
          t.channels[c] =
            { s.channels[c] with
              state := .connecting, token := some e.pack.token, holdSensor := false, holdFlood := false,
              holdHazard := false, verdict := none, rebounds := 0, endCount := 0, noResp := 0, spent := 0, rest := none,
              lastRest := 0, load := 0, duty := 0, charge := 0, energy := 0, peak := -400, minVolts := 65535,
              clipped := false, netIn := false, window := [] }
          ∧ t.custody.list = s.custody.list.map (fun x =>
              if x.pack.token = e.pack.token then { x with state := .inChannel, channel := some c } else x))
      ∧ (s.pins.conn[c].level = true →
          (connectVolts c s < s.cfg.vPresent →
            t.channels[c].state = .done ∧ t.channels[c].verdict = some .openCircuit ∧ t.channels[c].charge = 0)
          ∧ (s.cfg.vPresent ≤ connectVolts c s →
            t.channels[c].state = (if causeActive s .lineStop ∨ 2 ≤ Hazard.rank s.hazard.line then .held else .discharge)
            ∧ t.channels[c].charge = 0))) ∧
    (s.channels[c].state ≠ .empty ∨ noneWaiting s → t = s)) ∧
  (∀ s : State, channelsAct s → TokenLaw s →
    let t := (assignChannels s).1
    (noneWaiting t ∨ ∀ c : ChannelId, t.channels[c].state ≠ .empty) ∧
    (∀ c d : ChannelId, c.val < d.val → t.channels[c].state = .empty → t.channels[d] = s.channels[d]))

/-- R62, R64, R65: a CONN fall that leaves the input low, with no entry WAITING and no round of self-tests in progress: a
channel in DISCHARGE, HELD or REST ends ABORTED and, like one in DONE, releases its entry and is EMPTY with LOAD at 0; a
channel in EMPTY or CONNECTING takes nothing. The released entry is READY with no channel, and the channel is EMPTY with no
token and no verdict: shown for the release itself. -/
def Obligations.ConnFallEndsDischarge : Prop :=
  (∀ (c : ChannelId) (samples : List Bool) (s : State), s.running → s.cfg.role = .discharge →
    s.pins.conn[c].falls samples = true → (s.pins.conn[c].run samples).level = false → noneWaiting s → s.calm →
    ∃ t, exec (.connFall c samples) s = .next t ∧ t.pins.conn[c] = s.pins.conn[c].run samples
      ∧ (s.channels[c].state = .discharge ∨ s.channels[c].state = .held ∨ s.channels[c].state = .rest →
          t.channels[c].state = .empty ∧ t.channels[c].token = none ∧ t.channels[c].load = 0
          ∧ t.channels[c].counts.aborted = s.channels[c].counts.aborted.bump)
      ∧ (s.channels[c].state = .done →
          t.channels[c].state = .empty ∧ t.channels[c].token = none ∧ t.channels[c].counts = s.channels[c].counts
          ∧ t.custody.list.map Entry.dossier = s.custody.list.map Entry.dossier)
      ∧ (s.channels[c].state = .empty ∨ s.channels[c].state = .connecting → t.channels = s.channels
          ∧ t.custody = s.custody)) ∧
  (∀ (c : ChannelId) (tok : Token) (s : State), s.channels[c].token = some tok →
    requestApplies s tok .inChannel = true →
    (releaseChannel c s).1 =
      { s with channels := s.channels.set c { s.channels[c] with state := .empty, token := none, verdict := none },
               custody := { s.custody with list := s.custody.list.map fun e =>
                 if e.pack.token = tok then { e with state := .ready, channel := none } else e } })

/-- R16, R64: a verdict on a channel that holds the entry IN_CHANNEL on it: the summary built from the channel's closed
record stands in the entry, and its energy is added to the lifetime total. -/
def Obligations.VerdictWritesSummary : Prop :=
  ∀ (c : ChannelId) (v : Verdict) (s : State) (e : Entry),
    s.channels[c].token = some e.pack.token → findEntry s e.pack.token = some e → e.state = .inChannel →
    e.channel = some c →
    let k := s.channels[c]
    let m : Summary :=
      { verdict := v, energy := min 4294967295 (k.energy.toNat / 180000000),
        charge := min 4294967295 (k.charge.toNat / 360000), restVolts := k.lastRest, rebounds := k.rebounds,
        peak := k.peak, station := s.loader.own, clipped := k.clipped, netIn := k.netIn || k.energy < 0 || k.charge < 0 }
    ∃ e', findEntry (setVerdict c v s).1 e.pack.token = some e' ∧ e'.pack = { e.pack with summary := some m }
      ∧ (setVerdict c v s).1.custody.energy = s.custody.energy + BitVec.ofNat 48 m.energy
      ∧ (setVerdict c v s).1.custody.list.length = s.custody.list.length

/-- R51, R68, R74 to R76: a measurement sample stores the channel's readings; in DISCHARGE, HELD and REST it adds charge and
energy, held at the ends of the accumulators, and keeps the peak of the in-range temperatures. Shown for a channel with
CONN high and not EMPTY, whose figures no hand-on changes. -/
def Obligations.SampleAccumulates : Prop :=
  ∀ (c : ChannelId) (volts : Nat) (current temp : Int) (s : State), s.running → s.cfg.role = .discharge →
    s.pins.conn[c].level = true → s.channels[c].state ≠ .empty →
    voltsInRange volts = true → currentInRange current = true → tempInRange temp = true →
    ∃ t, exec (.measurementSample c volts current temp) s = .next t
      ∧ t.channels[c].volts = volts ∧ t.channels[c].current = current ∧ t.channels[c].temp = temp
      ∧ (s.channels[c].state = .connecting ∨ s.channels[c].state = .done →
          t.channels[c].charge = s.channels[c].charge ∧ t.channels[c].energy = s.channels[c].energy
          ∧ t.channels[c].peak = s.channels[c].peak)
      ∧ (s.channels[c].state = .discharge ∨ s.channels[c].state = .held ∨ s.channels[c].state = .rest →
          t.channels[c].charge
            = max (-(2 ^ 47 - 1)) (min (2 ^ 47 - 1) (s.channels[c].charge + current * s.cfg.tm))
          ∧ t.channels[c].energy
            = max (-(2 ^ 55 - 1)) (min (2 ^ 55 - 1) (s.channels[c].energy + volts * current * s.cfg.tm))
          ∧ t.channels[c].peak = (if -400 ≤ temp ∧ temp ≤ 2000 then max s.channels[c].peak temp else s.channels[c].peak))

/-- R57, R116: a sample whose temperature is in range and at or above T_cut ends a channel in DISCHARGE, HELD or REST with
verdict THERMAL, LOAD at 0, and latches the cause THERMAL. Shown with CONN high, where the channel stays DONE. R58: an
out of range temperature takes a channel from DISCHARGE to HELD by SENSOR, LOAD at 0. R59: a change of line hazard or
LINE_STOP sets FLOOD and HAZARD of a channel in DISCHARGE or HELD: it is HELD, LOAD at 0, while a hold condition is
present, and enters DISCHARGE, its counts and its duty in force at 0, when none is left; other channels are untouched. -/
def Obligations.HotSampleEndsThermal : Prop :=
  (∀ (c : ChannelId) (volts : Nat) (current temp : Int) (s : State), s.running → s.cfg.role = .discharge →
    s.pins.conn[c].level = true →
    (s.channels[c].state = .discharge ∨ s.channels[c].state = .held ∨ s.channels[c].state = .rest) →
    -400 ≤ temp → temp ≤ 2000 → s.cfg.tCut ≤ temp →
    ∃ t, exec (.measurementSample c volts current temp) s = .next t
      ∧ t.channels[c].state = .done ∧ t.channels[c].verdict = some .thermal ∧ t.channels[c].load = 0
      ∧ t.channels[c].counts.thermal = s.channels[c].counts.thermal.bump ∧ Latched t .thermal) ∧
  (∀ (c : ChannelId) (volts : Nat) (current temp : Int) (s : State), s.channels[c].state = .discharge →
    temp < -400 ∨ 2000 < temp →
    let t := (takeSample c volts current temp s).1
    t.channels[c].state = .held ∧ t.channels[c].holdSensor = true ∧ t.channels[c].load = 0
      ∧ t.channels[c].verdict = s.channels[c].verdict ∧ t.channels[c].peak = s.channels[c].peak) ∧
  (∀ (c : ChannelId) (s : State), channelsAct s →
    let flood := causeActive s .lineStop
    let hazard := decide (2 ≤ Hazard.rank s.hazard.line)
    let t := (channelsTakeHazard s).1
    (s.channels[c].state = .discharge → (s.channels[c].holdSensor || flood || hazard) = true →
      t.channels[c] = { s.channels[c] with state := .held, holdFlood := flood, holdHazard := hazard, load := 0 }) ∧
    (s.channels[c].state = .discharge → (s.channels[c].holdSensor || flood || hazard) = false →
      t.channels[c] = { s.channels[c] with holdFlood := false, holdHazard := false }) ∧
    (s.channels[c].state = .held → (s.channels[c].holdSensor || flood || hazard) = true →
      t.channels[c] = { s.channels[c] with holdFlood := flood, holdHazard := hazard }) ∧
    (s.channels[c].state = .held → (s.channels[c].holdSensor || flood || hazard) = false →
      t.channels[c] =
        { s.channels[c] with state := .discharge, holdFlood := false, holdHazard := false, endCount := 0, noResp := 0,
                             load := 0, duty := 0 }) ∧
    (s.channels[c].state ≠ .discharge → s.channels[c].state ≠ .held → t.channels[c] = s.channels[c]))

/-- R61, R77: the end of a rest: the rest voltage is the mean of the samples in the rest window, truncated; at or below
V_safe the verdict is DISCHARGED, above it a rebound to DISCHARGE or HELD while rebounds are left, else STUBBORN. Shown
with CONN high; what a hand-on can add to a rebound is stated with no round of self-tests in progress. -/
def Obligations.RestEndJudgesVoltage : Prop :=
  ∀ (c : ChannelId) (s : State), s.running → s.cfg.role = .discharge → s.pins.conn[c].level = true →
    s.channels[c].state = .rest → s.channels[c].rest = some 0 → s.channels[c].window ≠ [] →
    let v := s.channels[c].window.sum / s.channels[c].window.length
    ∃ t, exec (.restTimerExpiry c) s = .next t ∧ t.channels[c].lastRest = v
      ∧ (v ≤ s.cfg.vSafe → t.channels[c].state = .done ∧ t.channels[c].verdict = some .discharged
          ∧ t.channels[c].counts.discharged = s.channels[c].counts.discharged.bump)
      ∧ (s.cfg.vSafe < v → s.channels[c].rebounds < s.cfg.rMax → t.channels[c].rebounds = s.channels[c].rebounds + 1
          ∧ t.channels[c].state ≠ .empty
          ∧ (s.calm → (t.channels[c].state = .discharge ∨ t.channels[c].state = .held)
              ∧ t.channels[c].counts.rebounds = s.channels[c].counts.rebounds.bump))
      ∧ (s.cfg.vSafe < v → s.cfg.rMax ≤ s.channels[c].rebounds →
          t.channels[c].state = .done ∧ t.channels[c].verdict = some .stubborn
          ∧ t.channels[c].counts.stubborn = s.channels[c].counts.stubborn.bump)

/-- R60: the discharge time of a channel in DISCHARGE or HELD expires: verdict EXPIRED; with CONN high the channel is DONE
with LOAD at 0, and its figures stand. R63: the confirmation of a channel's zone ends a channel in CONNECTING, DISCHARGE,
HELD or REST with verdict FIRE, counted: DONE while CONN is high, else EMPTY with no token; other channels are untouched. -/
def Obligations.DischargeTimeEndsExpired : Prop :=
  (∀ (c : ChannelId) (s : State), s.running → s.cfg.role = .discharge → s.pins.conn[c].level = true →
    s.channels[c].state = .discharge ∨ s.channels[c].state = .held → s.cfg.maxMs ≤ s.channels[c].spent →
    ∃ t, exec (.dischargeTimeExpiry c) s = .next t ∧ t.channels[c].state = .done
      ∧ t.channels[c].verdict = some .expired ∧ t.channels[c].load = 0 ∧ t.channels[c].rest = none
      ∧ t.channels[c].counts.expired = s.channels[c].counts.expired.bump
      ∧ t.channels[c].charge = s.channels[c].charge ∧ t.channels[c].energy = s.channels[c].energy
      ∧ t.channels[c].token = s.channels[c].token) ∧
  (∀ (z : ZoneId) (c : ChannelId) (s : State), channelsAct s →
    let t := (channelsTakeFire z s).1
    let ends := s.cfg.channels[c].zone = z.val + 1 ∧ s.channels[c].state ≠ .empty ∧ s.channels[c].state ≠ .done
    (ends → s.pins.conn[c].level = true →
      t.channels[c].state = .done ∧ t.channels[c].verdict = some .fire ∧ t.channels[c].load = 0
      ∧ t.channels[c].rest = none ∧ t.channels[c].counts.fire = s.channels[c].counts.fire.bump
      ∧ t.channels[c].token = s.channels[c].token) ∧
    (ends → s.pins.conn[c].level = false →
      t.channels[c].state = .empty ∧ t.channels[c].token = none ∧ t.channels[c].load = 0
      ∧ t.channels[c].counts.fire = s.channels[c].counts.fire.bump) ∧
    (¬ ends → t.channels[c] = s.channels[c]))

/-- R70 to R73: the duty is 1,024 where the full power is within the limit, else the floor of 1,024 times the limit over the
full power, and 0 below D_min; so it drives no more than the limit. The limit is the full one up to T_knee, between falls as
the floor of the line to 0 at T_cut, is 0 from T_cut on, does not rise with the temperature, and is halved, truncated, for a
damaged pack; the full power is the floor of the squared voltage over the load. R55, R56, R61: a DISCHARGE sample below T_cut
counts on in the no-response time and the end count, or sets them back to 0. Where it meets no test of R55 it drives this duty;
where the end count reaches N_end first the channel enters REST, its load off, the rest time started, its window empty; both
change nothing else but the channel's record: shown where the evaluator has no news to take and no channel fault stands. Where
the no-response time reaches T_noresp the channel, whatever its end count, ends DONE with the verdict OPEN, counted. -/
def Obligations.DutyKeepsPowerLimit : Prop :=
  (∀ limit full dMin : Nat,
    (full ≤ limit → dutyOf limit full dMin = if dMin ≤ 1024 then 1024 else 0) ∧
    (limit < full → ∀ d, full * d ≤ 1024 * limit → 1024 * limit < full * (d + 1) →
      dutyOf limit full dMin = if dMin ≤ d then d else 0) ∧
    (dutyOf limit full dMin = 0 ∨ dMin ≤ dutyOf limit full dMin) ∧ dutyOf limit full dMin ≤ 1024
      ∧ full * dutyOf limit full dMin ≤ 1024 * limit) ∧
  (∀ volts rLoad : Nat, 0 < rLoad →
    fullPower volts rLoad * rLoad ≤ (20 * volts) ^ 2 ∧ (20 * volts) ^ 2 < (fullPower volts rLoad + 1) * rLoad) ∧
  (∀ limit : Nat, damagedLimit false limit = limit ∧ 2 * damagedLimit true limit ≤ limit
    ∧ limit ≤ 2 * damagedLimit true limit + 1) ∧
  (∀ (pMax : Nat) (tKnee tCut t u : Int), tKnee < tCut →
    (t ≤ tKnee → powerLimit pMax tKnee tCut t = pMax * 1000) ∧ (tCut ≤ t → powerLimit pMax tKnee tCut t = 0)
      ∧ (tKnee < t → t < tCut →
          (powerLimit pMax tKnee tCut t : Int) * (tCut - tKnee) ≤ pMax * 1000 * (tCut - t)
          ∧ pMax * 1000 * (tCut - t) < ((powerLimit pMax tKnee tCut t : Int) + 1) * (tCut - tKnee))
      ∧ powerLimit pMax tKnee tCut t ≤ pMax * 1000
      ∧ (t ≤ u → powerLimit pMax tKnee tCut u ≤ powerLimit pMax tKnee tCut t)) ∧
  (∀ (c : ChannelId) (volts : Nat) (current temp : Int) (s : State), s.running → s.cfg.role = .discharge →
    s.channels[c].state = .discharge → reassess s = (s, []) → s.hazard.facts.channel[c] = false →
    volts ≤ 65535 → -32768 ≤ current → current ≤ 32767 → -400 ≤ temp → temp ≤ 2000 → temp < s.cfg.tCut →
    let k := countSample s.cfg (accumulate s.cfg.tm
      { s.channels[c] with volts := volts, current := current, temp := temp, sampled := true,
                           duty := s.channels[c].load })
    let duty := dutyOf (damagedLimit (heldDamaged c s) (powerLimit s.cfg.pMax s.cfg.tKnee s.cfg.tCut temp))
      (fullPower volts s.cfg.channels[c].rLoad) s.cfg.dMin
    (k.noResp = (if 0 < s.channels[c].load ∧ current < s.cfg.iMin
        then min s.cfg.noRespMs (s.channels[c].noResp + s.cfg.tm) else 0)
      ∧ k.endCount = (if 0 < s.channels[c].load ∧ volts ≤ s.cfg.vEnd then min 255 (s.channels[c].endCount + 1) else 0)) ∧
    (k.noResp < s.cfg.noRespMs → k.endCount < s.cfg.nEnd →
      exec (.measurementSample c volts current temp) s
        = .next { s with channels := s.channels.set c { k with load := duty } }) ∧
    (k.noResp < s.cfg.noRespMs → s.cfg.nEnd ≤ k.endCount →
      exec (.measurementSample c volts current temp) s
        = .next { s with channels :=
            s.channels.set c { k with state := .rest, load := 0, rest := some s.cfg.restMs, window := [] } })) ∧
  (∀ (c : ChannelId) (volts : Nat) (current temp : Int) (s : State), s.running → s.cfg.role = .discharge →
    s.channels[c].state = .discharge → s.pins.conn[c].level = true →
    -400 ≤ temp → temp ≤ 2000 → temp < s.cfg.tCut →
    0 < s.channels[c].load → holdCurrent current < s.cfg.iMin → s.cfg.noRespMs ≤ s.channels[c].noResp + s.cfg.tm →
    ∃ t, exec (.measurementSample c volts current temp) s = .next t
      ∧ t.channels[c].state = .done ∧ t.channels[c].verdict = some .openCircuit ∧ t.channels[c].load = 0
      ∧ t.channels[c].noResp = s.cfg.noRespMs
      ∧ t.channels[c].counts.openCircuit = s.channels[c].counts.openCircuit.bump)

/-! ## Detector points and self-tests -/

/-- R83 to R87: a scan of an analogue point whose lamp is not on: a reading outside the fault band sets the band fault
and leaves level and last in-band reading. A reading inside it counts a recovery scan while the band fault holds, and the
hundredth ends the fault with the level NORMAL; then the level follows R87 from the compare value: the reading in ABSOLUTE
mode; in BASELINE mode the reading less the provisional baseline of a round in TEST, or else the baseline, and with neither
compare value and level stay; in RATE mode the reading less the one a rate interval earlier, 0 while there is none or that one
was out of band. The history of a RATE point takes every reading. -/
def Obligations.PointScanJudgesReading : Prop :=
  ∀ (a : AnalogueId) (reading : Int) (s : State), Phase.scans s.loader.phase = true →
    s.cfg.points[analoguePoint a].kind ≠ .disabled → lampIsOn s (analoguePoint a) = false →
    let p := analoguePoint a
    let k := s.cfg.points[p]
    let r := holdReading k.kind reading
    ∃ t, exec (.pointScan a reading) s = .next t ∧ t.points[p].reading = some r
      ∧ (k.mode = .rate → t.points[p].history = (r :: s.points[p].history).take (k.span * 100 + 1))
      ∧ (r < k.low ∨ k.high < r → t.points[p].band = true ∧ t.points[p].recovery = 0
          ∧ t.points[p].level = s.points[p].level ∧ t.points[p].inBand = s.points[p].inBand)
      ∧ (k.low ≤ r → r ≤ k.high → s.points[p].band = false → k.mode = .absolute →
          t.points[p].band = false ∧ t.points[p].inBand = some r ∧ t.points[p].compare = some r
          ∧ t.points[p].level = nextLevel k s.points[p].level r)
      ∧ (k.low ≤ r → r ≤ k.high →
          let recovered := s.points[p].band && s.points[p].recovery + 1 == 100
          let level := if recovered then .normal else s.points[p].level
          let reference := if s.points[p].provisional.isSome then s.points[p].provisional else s.points[p].baseline
          t.points[p].band = (s.points[p].band && !recovered)
          ∧ t.points[p].recovery = (if s.points[p].band then s.points[p].recovery + 1 else s.points[p].recovery)
          ∧ t.points[p].inBand = some r
          ∧ (∀ value, k.mode = .absolute ∧ value = r
                ∨ k.mode = .rate ∧ value = (match (r :: s.points[p].history)[k.span * 100]? with
                  | some earlier => if k.low ≤ earlier ∧ earlier ≤ k.high then r - earlier else 0
                  | none => 0)
                ∨ k.mode = .baseline ∧ reference.map (r - ·) = some value →
              t.points[p].compare = some value ∧ t.points[p].level = nextLevel k level value)
          ∧ (k.mode = .baseline → reference = none →
              t.points[p].compare = s.points[p].compare ∧ t.points[p].level = level))

/-- R87: with the alarm threshold not below the warn threshold and the hysteresis not negative: a value at or above the
alarm threshold is ALARM; a level falls from ALARM only below the alarm threshold less the hysteresis, and to NORMAL from
WARN or ALARM only below the warn threshold less the hysteresis; from NORMAL a value below the warn threshold is NORMAL. -/
def Obligations.LevelFallsOnlyPastHysteresis : Prop :=
  ∀ (k : PointCfg) (before : PointLevel) (v : Int), k.warn ≤ k.alarm →
    ((k.alarm : Int) ≤ v → nextLevel k before v = .alarm) ∧
    (before = .alarm → nextLevel k before v ≠ .alarm → v < k.alarm - k.hyst) ∧
    (before ≠ .normal → nextLevel k before v = .normal → v < k.warn - k.hyst) ∧
    (before = .normal → v < k.warn → nextLevel k before v = .normal) ∧
    (v < k.warn - k.hyst → v < k.alarm - k.hyst → v < k.alarm → nextLevel k before v = .normal)

/-- R88 to R90: the selected edges that the samples bring to a pulse point in use are added to its window's count, up to 65,535,
and an excursion from the active level is noted; nothing else changes but the input. The end of a pulse window, the point's
lamp not on: with the input away from its active level at some time in the window the count gives the level and the stuck fault
clears, otherwise the stuck fault is set; the next window begins at count 0. -/
def Obligations.PulsePointsCountEdges : Prop :=
  (∀ (q : PulseId) (samples : List Bool) (s : State),
    let p := pulsePoint q
    let active := s.cfg.points[p].edge = .rising
    ∃ t, exec (.pulseEdge q samples) s = .next t ∧ t.pins.pulse[q] = s.pins.pulse[q].run samples
      ∧ OnlyTouches [.pins, .points] s t ∧ (∀ o : PointId, o ≠ p → t.points[o] = s.points[o])
      ∧ (Phase.scans s.loader.phase = true → s.cfg.points[p].kind ≠ .disabled →
          t.points[p].windowCount
            = min 65535 (s.points[p].windowCount + Filter.edges (decide active) s.pins.pulse[q] samples)
          ∧ t.points[p].away = (s.points[p].away || Filter.visits (!decide active) s.pins.pulse[q] samples))
      ∧ (Phase.scans s.loader.phase = false ∨ s.cfg.points[p].kind = .disabled → t.points = s.points)) ∧
  (∀ (q : PulseId) (s : State), Phase.scans s.loader.phase = true → s.cfg.points[pulsePoint q].kind ≠ .disabled →
    s.points[pulsePoint q].window = some 0 → lampIsOn s (pulsePoint q) = false →
    let p := pulsePoint q
    let k := s.cfg.points[p]
    let n := s.points[p].windowCount
    ∃ t, exec (.pulseWindowEnd q) s = .next t
      ∧ t.points[p].windowCount = 0 ∧ t.points[p].window = some (k.span * 1000)
      ∧ (s.points[p].away = true → t.points[p].stuck = false
          ∧ t.points[p].level = (if k.alarm ≤ n then .alarm else if k.warn ≤ n then .warn else .normal))
      ∧ (s.points[p].away = false → t.points[p].stuck = true ∧ t.points[p].level = s.points[p].level))

/-- R93, R95 to R97, R190: the test timer's expiry fails the test of the point under the lamp with a test fault (in the start-up
round shown with result FAIL), and a release part's end drops the provisional baseline. In the start-up round, after the last
test-enabled point, the round is over and BASELINE runs for 160 ms; in a round in RUN the test fault of a released point stands
as it was. At a scan or window end of the point under the lamp: level ALARM ends the test PASS, counted, the lamp off, the test
timer stopped, a test fault cleared, the release part begun for the release time, the point still TESTING; a level below ALARM
leaves the test as it is; a band or stuck fault ends it FAIL at once, and the round moves on. In TEST the whole effect of such
an in-band scan is shown. R96: a condition of R94 at a point under the lamp in RUN aborts its test, counted, its result kept,
the release part begun; after it the round waits at the same point while the condition holds. -/
def Obligations.TestTimersJudgePoint : Prop :=
  (∀ (p : PointId) (s : State), s.loader.phase = .test →
    (∀ q : PointId, p.val < q.val → testEnabled s.cfg q = false) →
    (s.scanner.round = some ⟨true, p, .lamp⟩ → s.scanner.testTimer = some 0 →
      ∃ t, exec .testTimerExpiry s = .next t ∧ t.points[p].testFault = true ∧ t.points[p].result = some .fail
        ∧ t.points[p].counts.fails = s.points[p].counts.fails.bump
        ∧ t.scanner.lamps = Vector.replicate 4 false ∧ t.scanner.testTimer = none ∧ t.scanner.round = none
        ∧ t.loader.phase = .baseline ∧ t.loader.baselineTimer = some 160) ∧
    (s.scanner.round = some ⟨true, p, .release false⟩ → s.scanner.releaseTimer = some 0 →
      ∃ t, exec .releaseEnd s = .next t ∧ t.points[p].provisional = none ∧ t.scanner.releaseTimer = none
        ∧ t.scanner.round = none ∧ t.loader.phase = .baseline ∧ t.loader.baselineTimer = some 160)) ∧
  (∀ (p : PointId) (s : State), s.running →
    (s.scanner.round = some ⟨false, p, .lamp⟩ → s.scanner.testTimer = some 0 →
      ∃ t, exec .testTimerExpiry s = .next t ∧ t.points[p].testFault = true ∧ t.points[p].provisional = none) ∧
    (∀ aborted, s.scanner.round = some ⟨false, p, .release aborted⟩ → s.scanner.releaseTimer = some 0 →
      ∃ t, exec .releaseEnd s = .next t ∧ t.points[p].provisional = none
        ∧ t.points[p].testFault = s.points[p].testFault)) ∧
  (∀ (p : PointId) (startup : Bool) (s : State), s.cfg.points[p].kind ≠ .disabled →
    s.scanner.round = some ⟨startup, p, .lamp⟩ →
    let dark := { s.scanner with testTimer := none, lamps := Vector.replicate 4 false }
    let passed := fun pt : Point =>
      { pt with reported := .testing, result := some .pass, resultTime := some s.clock, testFault := false,
                counts := { pt.counts with passes := pt.counts.passes.bump } }
    let release := { dark with round := some ⟨startup, p, .release false⟩, releaseTimer := some s.cfg.releaseMs }
    let failed := (judgeTest p true s).1
    (s.points[p].reported = .testing →
      (s.points[p].level = .alarm → judgeTest p false s =
        ({ s with points := s.points.set p (passed s.points[p]), scanner := release }, [])) ∧
      (s.points[p].level ≠ .alarm → judgeTest p false s = (s, [])) ∧
      failed.points[p].result = some .fail ∧ failed.points[p].resultTime = some s.clock
        ∧ failed.points[p].testFault = true ∧ failed.points[p].reported = .fault
        ∧ failed.points[p].counts.fails = s.points[p].counts.fails.bump
        ∧ failed.scanner = { dark with round := some ⟨startup, p, .moving⟩ }
        ∧ .roundFrom (p.val + 1) ∈ (judgeTest p true s).2) ∧
    (∀ (a : AnalogueId) (reading : Int), p = analoguePoint a → s.loader.phase = .test →
      let k := s.cfg.points[p]
      let r := holdReading k.kind reading
      let u := scanRecord .test true k r s.points[p]
      k.low ≤ r → r ≤ k.high →
      (u.level = .alarm → exec (.pointScan a reading) s =
        .next { s with points := s.points.set p (passed u), scanner := release }) ∧
      (u.level ≠ .alarm → exec (.pointScan a reading) s =
        .next { s with points := s.points.set p { u with reported := .testing } }))) ∧
  (∀ (p : PointId) (s : State), s.running →
    let aborted := fun pt : Point => { pt with counts := { pt.counts with aborts := pt.counts.aborts.bump } }
    let release := { s.scanner with round := some ⟨false, p, .release true⟩, testTimer := none,
                                    releaseTimer := some s.cfg.releaseMs, lamps := Vector.replicate 4 false }
    (s.scanner.round = some ⟨false, p, .lamp⟩ →
      (testDeferred s p = true → scannerLook s =
        ({ s with points := s.points.set p (aborted s.points[p]), scanner := release }, [])) ∧
      (testDeferred s p = false → scannerLook s = (s, []))) ∧
    (∀ part, s.scanner.round = some ⟨false, p, part⟩ → testDeferred s p = true →
      roundAgain s = ({ s with scanner := { s.scanner with round := some ⟨false, p, .waiting⟩ } }, [])))

/-- R93, R94: the test interval's expiry in RUN begins a round at the lowest-numbered test-enabled point: with no such point
the round ends at once and the interval starts again; with that point deferred the round waits there, no lamp on and no
point changed; otherwise its test begins (and is aborted at once where the change it makes raises the line hazard). -/
def Obligations.TestIntervalBeginsRound : Prop :=
  ∀ s : State, s.running → s.scanner.intervalTimer = some 0 → s.scanner.round = none →
    ((∀ p : PointId, testEnabled s.cfg p = false) → exec .testIntervalExpiry s = .next
      { s with scanner := { s.scanner with intervalTimer := some s.cfg.intervalMs } }) ∧
    (∀ p : PointId, testEnabled s.cfg p = true → (∀ q : PointId, q.val < p.val → testEnabled s.cfg q = false) →
      Point.untestable s.points[p] = false → testDeferred s p = true →
      exec .testIntervalExpiry s = .next
        { s with scanner := { s.scanner with round := some ⟨false, p, .waiting⟩, intervalTimer := none } }) ∧
    (∀ p : PointId, testEnabled s.cfg p = true → (∀ q : PointId, q.val < p.val → testEnabled s.cfg q = false) →
      Point.untestable s.points[p] = false → testDeferred s p = false →
      ∃ t part, exec .testIntervalExpiry s = .next t ∧ t.scanner.round = some ⟨false, p, part⟩
        ∧ (part = .lamp ∨ part = .release true))

/-! ## Zones -/

/-- R105, R107, R102, R116, R172: the window of a PENDING zone expires: with a member still in ALARM the zone stays PENDING
with the window lapsed, else it is QUIET with nothing held (shown with no round of self-tests in progress); that another
member than the held point keeps it PENDING is the model's reading (log 37). A member's persistence timer expires with the
zone QUIET or PENDING: the zone is CONFIRMED, basis PERSISTENCE, by that member, the timers of its members stop, its latch
makes ZONE_CONFIRMED active, and a joined station emits a stop burst. -/
def Obligations.ZoneTimersDecideZone : Prop :=
  (∀ (z : ZoneId) (s : State), s.running → s.zones.zones[z].status = .pending →
    s.zones.zones[z].window = .running 0 → s.calm →
    ∃ t, exec (.zoneWindowExpiry z) s = .next t
      ∧ ((s.zones.zones[z].heldPoint.any (fun p => s.zones.members[p] == .alarm) = true
            ∨ (alarmingMember s z).isSome = true) →
          t.zones.zones[z] = { s.zones.zones[z] with window := .lapsed })
      ∧ (s.zones.zones[z].heldPoint.any (fun p => s.zones.members[p] == .alarm) = false →
          alarmingMember s z = none →
          t.zones.zones[z]
            = { s.zones.zones[z] with status := .quiet, heldPoint := none, heldTime := none, window := .none })
      ∧ OnlyTouches [.zones] s t) ∧
  (∀ (p : PointId) (z : ZoneId) (s : State), s.running → s.zones.persist[p] = some 0 →
    zoneOfNumber s.cfg.points[p].zone = some z →
    (s.zones.zones[z].status = .quiet ∨ s.zones.zones[z].status = .pending) →
    ∃ t, exec (.persistenceExpiry p) s = .next t ∧ t.zones.zones[z].status = .confirmed
      ∧ t.zones.zones[z].basis = some .persistence ∧ t.zones.zones[z].confirming = some p
      ∧ t.zones.zones[z].confirmTime = some s.clock
      ∧ t.zones.zones[z].counts.confirmations = s.zones.zones[z].counts.confirmations.bump
      ∧ (∀ q : PointId, isMember s.cfg z q = true → t.zones.persist[q] = none) ∧ ZoneLatched t z
      ∧ (joined s → t.link.state = .emitting))

/-- R101, R103, R104, R106, R109: an ALARM event at a zone: by the effective mode it confirms a QUIET zone with basis SINGLE
or makes it PENDING with the point held; a second point confirms a PENDING zone with basis COINCIDENCE (with basis SINGLE
where its effective mode has become SINGLE: the model's choice, log 33); the held point again, a CONFIRMED zone and a FAULT
zone change nothing. R91, R102, R116, R122, R172: so a scan in RUN that brings a point without a fault from another state
to ALARM confirms its zone, with the effective mode after the change: the timers of the zone's members stop, its latch makes
ZONE_CONFIRMED active, and a joined station emits a stop burst. -/
def Obligations.AlarmEventJudgesZone : Prop :=
  (∀ (z : ZoneId) (p : PointId) (s : State),
    let r := s.zones.zones[z]
    let u := (judgeAlarm z p s).1.zones.zones[z]
    (r.status = .quiet → r.mode = .single → u.status = .confirmed ∧ u.basis = some .single ∧ u.confirming = some p) ∧
    (r.status = .quiet → r.mode = .coincidence →
      u = { r with status := .pending, heldPoint := some p, heldTime := some s.clock,
                   window := .running s.cfg.zones[z].windowMs,
                   counts := { r.counts with pendings := r.counts.pendings.bump } }) ∧
    (r.status = .pending → r.mode = .single →
      u.status = .confirmed ∧ u.basis = some .single ∧ u.confirming = some p) ∧
    (r.status = .pending → r.mode = .coincidence → r.heldPoint ≠ some p →
      u.status = .confirmed ∧ u.basis = some .coincidence ∧ u.confirming = some p ∧ u.heldPoint = none) ∧
    (r.status = .pending → r.mode = .coincidence → r.heldPoint = some p → u = r) ∧
    (r.status = .confirmed ∨ r.status = .fault → u = r)) ∧
  (∀ (a : AnalogueId) (reading : Int) (z : ZoneId) (s : State), s.running → noStartupRound s →
    let p := analoguePoint a
    let k := s.cfg.points[p]
    let r := holdReading k.kind reading
    let zone := s.zones.zones[z]
    let mode := effectiveMode s.cfg.zones[z].mode (healthyCount (recordMember p .alarm s) z)
    k.kind ≠ .disabled → k.mode = .absolute → zoneOfNumber k.zone = some z → Scanner.testing s.scanner p = false →
    k.low ≤ r → r ≤ k.high → (k.alarm : Int) ≤ r → s.points[p].reported ≠ .alarm → s.points[p].band = false →
    s.points[p].noBaseline = false → s.points[p].stuck = false → s.points[p].testFault = false →
    (zone.status = .quiet ∧ mode = .single) ∨ (zone.status = .pending ∧ (mode = .single ∨ zone.heldPoint ≠ some p)) →
    ∃ t, exec (.pointScan a reading) s = .next t ∧ t.zones.zones[z].status = .confirmed
      ∧ t.zones.zones[z].basis = some (if mode = .single then .single else .coincidence)
      ∧ t.zones.zones[z].confirming = some p ∧ t.zones.zones[z].confirmTime = some s.clock
      ∧ t.zones.zones[z].counts.confirmations = zone.counts.confirmations.bump
      ∧ (∀ q : PointId, isMember s.cfg z q = true → t.zones.persist[q] = none) ∧ ZoneLatched t z
      ∧ (joined s → t.link.state = .emitting))

/-! ## Causes and hazards -/

/-- R120: the station hazard is the highest hazard contributed by the active local causes, CLEAR where none contributes; the
line hazard is the highest of the station hazard and the hazards of the active peer-derived causes, and never lower than
the station hazard. R121: both are worked out afresh whenever the evaluator takes the facts present in RUN; a new line hazard
goes to every reader of Table 25, the same one to none, but that LINE_STOP goes to the channels and ROTOR_STALL to the rotor
monitor. R122, R17: a local cause that becomes active at NOMINAL or HIGH queues its ALARM with its place and the station
hazard, and offers its mark to every entry; without one nothing is queued or marked. Shown for one such cause at a time
(several go in code order, log 28). R116, R172: a zone's confirmation latches, queues ALARM and mark of its own, goes to the
channels, and makes a joined station emit a stop burst. -/
def Obligations.HazardIsHighestContribution : Prop :=
  (∀ causes : Vector CauseRecord 14,
    (∀ c : Cause, Cause.isLocal c = true →
      Hazard.rank (causes[Cause.index c]).hazard ≤ Hazard.rank (stationHazard causes)) ∧
    (stationHazard causes = .clear ∨ ∃ c : Cause, Cause.isLocal c = true ∧ causes[Cause.index c].active = true
      ∧ stationHazard causes = Level.toHazard causes[Cause.index c].level) ∧
    (∀ c : Cause, Hazard.rank (causes[Cause.index c]).hazard ≤ Hazard.rank (lineHazard causes)) ∧
    (lineHazard causes = stationHazard causes ∨ ∃ c : Cause, Cause.isLocal c = false
      ∧ causes[Cause.index c].active = true ∧ lineHazard causes = Level.toHazard causes[Cause.index c].level) ∧
    Hazard.rank (stationHazard causes) ≤ Hazard.rank (lineHazard causes)) ∧
  (∀ s : State, s.running →
    let t := (reassess s).1
    t.hazard.station = stationHazard t.hazard.causes ∧ t.hazard.line = lineHazard t.hazard.causes
      ∧ (∀ c : Cause, t.hazard.causes[Cause.index c].active = condition s c)
      ∧ t.hazard.causes[Cause.index .peerHazard].level = s.peers.level
      ∧ (t.hazard.line ≠ s.hazard.line → .channelsHazard ∈ (reassess s).2 ∧ .handoffHazard ∈ (reassess s).2
          ∧ .scannerLook ∈ (reassess s).2 ∧ .rotorLook ∈ (reassess s).2 ∧ .feedLook ∈ (reassess s).2)
      ∧ (t.hazard.line = s.hazard.line → .handoffHazard ∉ (reassess s).2 ∧ .scannerLook ∉ (reassess s).2
          ∧ .feedLook ∉ (reassess s).2
          ∧ (.channelsHazard ∈ (reassess s).2 ↔ causeActive t .lineStop ≠ causeActive s .lineStop)
          ∧ (.rotorLook ∈ (reassess s).2 ↔ causeActive t .rotorStall ≠ causeActive s .rotorStall))
      ∧ ((∀ c, ¬ Activates s c) → t.link = s.link ∧ t.custody = s.custody)
      ∧ (∀ c, Activates s c → (∀ d, Activates s d → d = c) →
          let place := alarmPlace s c
          let alarm : Slot :=
            ⟨⟨s.loader.own, 0, .alarm c place.1 place.2 s.hazard.causes[Cause.index c].level t.hazard.station⟩, 0⟩
          t.hazard.causes[Cause.index c].activations = s.hazard.causes[Cause.index c].activations.bump
          ∧ t.hazard.causes[Cause.index c].last = some s.clock ∧ t.hazard.alarmsQueued = s.hazard.alarmsQueued.bump
          ∧ t.custody = { s.custody with list := s.custody.list.map (Entry.marked ⟨c, s.loader.own⟩) }
          ∧ (s.link.alarms.length < 2 → t.link = { s.link with alarms := s.link.alarms ++ [alarm] })
          ∧ (2 ≤ s.link.alarms.length → t.link =
              { s.link with
                alarms := s.link.alarms.eraseIdx (if s.link.sending = some .alarm then 1 else 0) ++ [alarm],
                counts := { s.link.counts with displaced := s.link.counts.displaced.bump } }))) ∧
  (∀ (s : State) (p : PointId),
    let holds := fun (st : PointReport) => s.hazard.facts.points[p] = some st
      ∧ ∀ q : PointId, q.val < p.val → s.hazard.facts.points[q] ≠ some st
    let place := (s.cfg.points[p].zone, p.val + 1)
    (holds .warn → alarmPlace s .pointWarn = place) ∧ (holds .alarm → alarmPlace s .pointAlarm = place)
      ∧ (holds .fault → alarmPlace s .pointFault = place)
      ∧ (∀ z : ZoneId, (∀ q : PointId, s.hazard.facts.points[q] ≠ some .fault) → s.hazard.facts.zoneFault[z] = true →
          (∀ y : ZoneId, y.val < z.val → s.hazard.facts.zoneFault[y] = false) →
          alarmPlace s .pointFault = (z.val + 1, 0))
      ∧ (∀ c : Cause, c ≠ .pointWarn → c ≠ .pointAlarm → c ≠ .pointFault → alarmPlace s c = (0, 0))) ∧
  (∀ (z : ZoneId) (p : PointId) (s : State), s.running → (∀ c, ¬ Activates s c) →
    let t := (latchZone z p s).1
    let r := s.hazard.causes[Cause.index .zoneConfirmed]
    ZoneLatched t z ∧ .channelsFire z ∈ (latchZone z p s).2
      ∧ t.hazard.causes[Cause.index .zoneConfirmed].activations = r.activations.bump
      ∧ t.hazard.causes[Cause.index .zoneConfirmed].last = some s.clock
      ∧ t.custody = { s.custody with list := s.custody.list.map (Entry.marked ⟨.zoneConfirmed, s.loader.own⟩) }
      ∧ (s.link.alarms.length < 2 → t.link.alarms = s.link.alarms ++
          [⟨⟨s.loader.own, 0, .alarm .zoneConfirmed (z.val + 1) (p.val + 1) r.level t.hazard.station⟩, 0⟩])
      ∧ (joined s → t.link.state = .emitting ∧ t.link.ltx = .dominant ∧ t.link.burstLeft = 24
          ∧ t.link.counts.burstsEmitted = s.link.counts.burstsEmitted.bump))

/-- R117, R165, R173: a stop burst detected on the line: it is counted, an arbitration loss of this very run is set back, and
the custody telegrams keep their places; in RUN the stop hold timer starts and LINE_STOP is active, and before RUN the
evaluator takes nothing. With no round of self-tests in progress the link stands in SETTLING, no attempt in progress and LTX
recessive. The stop hold timer's expiry in RUN ends LINE_STOP. -/
def Obligations.StopBurstHoldsLineStop : Prop :=
  (∀ (bits : List Bool) (s : State), s.link.on = true → LinkState.hearsBursts s.link.state = true →
    reachesBurst s.link.dominant bits = true →
    ∃ t, exec (.stopBurstDetected bits) s = .next t
      ∧ t.link.counts.burstsDetected = s.link.counts.burstsDetected.bump
      ∧ t.link.counts.losses
          = (if s.link.lossAt.isSome && bits.all (!·) then s.link.counts.losses.unbump else s.link.counts.losses)
      ∧ (t.link.state = .settling ∨ t.link.state = .emitting) ∧ (s.calm → t.link.state = .settling
          ∧ t.link.sending = none ∧ t.link.ltx = .recessive)
      ∧ s.link.custody <+: t.link.custody
      ∧ (s.running → t.hazard.stopHold = some s.cfg.stopHoldMs
          ∧ t.hazard.causes[Cause.index .lineStop].active = true)
      ∧ (¬ s.running → t.hazard = s.hazard)) ∧
  (∀ s : State, s.running → s.hazard.stopHold = some 0 →
    ∃ t, exec .stopHoldExpiry s = .next t ∧ t.hazard.stopHold = none
      ∧ t.hazard.causes[Cause.index .lineStop].active = false ∧ t.hazard.restores = s.hazard.restores
      ∧ t.custody.list.map Entry.identity = s.custody.list.map Entry.identity)

/-! ## Hand-off -/

/-- R36, R45: the reply timer expires while an offer is outstanding: the offer is cleared, the retry timer started; an
OFFERED entry becomes READY with its last refusal reason as it was, an ADRIFT one is left as it is, and no telegram is
sent. -/
def Obligations.ReplyExpiryReturnsOffer : Prop :=
  ∀ (o : Offer) (s : State), s.running → s.handoff.offer = some o → s.handoff.reply = some 0 →
    ∃ t, exec .replyTimerExpiry s = .next t
      ∧ t.handoff = { s.handoff with offer := none, reply := none, retry := some s.cfg.retryMs }
      ∧ t.custody.list = s.custody.list.map (fun e =>
          if requestApplies s o.token .offered = true ∧ e.pack.token = o.token then { e with state := .ready } else e)
      ∧ OnlyTouches [.custody, .handoff] s t ∧ t.custody.counts = s.custody.counts

/-- R27 to R30, R34, R45: the retry timer expires with no offer outstanding and a custody slot free: the restart-marked
ADRIFT entry or else the READY entry that R27 finds is offered to its target, the offer recorded and the reply timer
started, the READY entry become OFFERED and no other changed; with neither nothing is sent. The exit gate timer's expiry drives EXIT low. -/
def Obligations.RetryExpirySearchesAndGateCloses : Prop :=
  (∀ s : State, s.running → s.handoff.retry = some 0 → Role.offers s.cfg.role = true → s.handoff.offer = none →
    s.link.custody.length < 4 →
    (∀ e, reofferCandidate s = some e → ∃ t, exec .retryTimerExpiry s = .next t
      ∧ t.link.custody = s.link.custody ++ [⟨⟨s.loader.own, e.target, .offer e.pack⟩, 0⟩]
      ∧ t.handoff = { s.handoff with retry := none, offer := some ⟨e.pack.token, e.target⟩, reply := some s.cfg.replyMs }
      ∧ t.custody = s.custody) ∧
    (∀ e, reofferCandidate s = none → offerCandidate s = some e → ∃ t, exec .retryTimerExpiry s = .next t
      ∧ t.link.custody = s.link.custody ++ [⟨⟨s.loader.own, targetOf s.cfg e, .offer e.pack⟩, 0⟩]
      ∧ t.handoff = { s.handoff with retry := none, offer := some ⟨e.pack.token, targetOf s.cfg e⟩,
                                     reply := some s.cfg.replyMs }
      ∧ t.custody.list.map (·.pack) = s.custody.list.map (·.pack)
      ∧ (findEntry s e.pack.token = some e → (∀ x ∈ s.custody.list, x.state ≠ .offered) →
          t.custody = { s.custody with list := s.custody.list.map fun x =>
            if x.pack.token = e.pack.token then { x with state := .offered } else x })) ∧
    (reofferCandidate s = none → offerCandidate s = none →
      exec .retryTimerExpiry s = .next { s with handoff := { s.handoff with retry := none } })) ∧
  (∀ s : State, s.handoff.gate = some 0 →
    exec .exitGateExpiry s = .next { s with handoff := { s.handoff with exitGate := false, gate := none } })

/-- R40: the transit timer expires in RUN while the expectation is open: the expectation closes, CUSTODY_DISCREPANCY is
raised, and MISSING is queued where a custody slot is free. -/
def Obligations.TransitExpirySendsMissing : Prop :=
  ∀ (x : Expectation) (s : State), s.running → s.handoff.expect = some x → s.handoff.transit = some 0 →
    ∃ t, exec .transitTimerExpiry s = .next t ∧ t.handoff.expect = none ∧ t.handoff.transit = none
      ∧ t.custody.list.map Entry.identity = s.custody.list.map Entry.identity ∧ Latched t .custody
      ∧ (s.link.custody.length < 4 →
          s.link.custody ++ [⟨⟨s.loader.own, x.offering, .missing x.pack.token⟩, 0⟩] <+: t.link.custody)

/-- R31: the reason an OFFER is refused for is the first of Table 14 that holds, and a QUARANTINE tests BUSY, FULL and
DUPLICATE alone. -/
def Obligations.RefusalReasonsInOrder : Prop :=
  ∀ (s : State) (p : PackRecord),
    (s.handoff.expect.isSome = true → refusalReason s p = some .busy) ∧
    (s.handoff.expect = none → 16 ≤ s.custody.list.length → refusalReason s p = some .full) ∧
    (s.handoff.expect = none → s.cfg.role = .discharge → freeChannels s = 0 → refusalReason s p = some .full) ∧
    (s.handoff.expect = none → s.custody.list.length < 16 → (s.cfg.role = .discharge → 0 < freeChannels s) →
      s.cfg.role ≠ .quarantine →
      (2 ≤ Hazard.rank s.hazard.line → refusalReason s p = some .hazard) ∧
      (Hazard.rank s.hazard.line < 2 → (∃ e ∈ s.custody.list, e.pack.token = p.token) →
        refusalReason s p = some .duplicate) ∧
      (Hazard.rank s.hazard.line < 2 → (∀ e ∈ s.custody.list, e.pack.token ≠ p.token) →
        (p.hops = 15 → refusalReason s p = some .hops) ∧
        (p.hops ≠ 15 → s.cfg.role ≠ .shredder → refusalReason s p = none) ∧
        (p.hops ≠ 15 → s.cfg.role = .shredder → p.summary = none → refusalReason s p = some .notDischarged) ∧
        (∀ m, p.hops ≠ 15 → s.cfg.role = .shredder → p.summary = some m →
          (m.verdict ≠ .discharged → refusalReason s p = some .notDischarged) ∧
          (m.verdict = .discharged → s.cfg.acceptVolts < m.restVolts → refusalReason s p = some .overVoltage) ∧
          (m.verdict = .discharged → m.restVolts ≤ s.cfg.acceptVolts → p.damaged = true →
            refusalReason s p = some .packClass) ∧
          (m.verdict = .discharged → m.restVolts ≤ s.cfg.acceptVolts → p.damaged = false →
            refusalReason s p = (if s.chamber.state = .inert then none else some .notInert))))) ∧
    (s.handoff.expect = none → s.custody.list.length < 16 → s.cfg.role = .quarantine →
      refusalReason s p = if s.custody.list.any (·.pack.token == p.token) then some .duplicate else none)

/-- R31, R32: an OFFER at the head of the receive queue, addressed to this station in RUN, with a custody slot free: refused
with the reason of R31, or accepted: the expectation opens with one hop more (15 at most) and the transit timer starts. An
OFFER addressed to station 0, or outside RUN, is discarded. -/
def Obligations.OfferIsDecided : Prop :=
  ∀ (origin dest : Nat) (p : PackRecord) (rest : List Telegram) (s : State),
    s.link.rx = ⟨origin, dest, .offer p⟩ :: rest → origin ≠ s.loader.own → origin ≠ 0 →
    (s.running → dest ≠ 0 → s.link.custody.length < 4 →
      (∀ r, refusalReason s p = some r → exec .offerReceived s = .next
        { s with link := { s.link with rx := rest,
                                       custody := s.link.custody ++ [⟨⟨s.loader.own, origin, .refuse p.token r⟩, 0⟩] },
                 custody := { s.custody with counts := { s.custody.counts with
                   refusalsSent := s.custody.counts.refusalsSent.bump } } }) ∧
      (refusalReason s p = none → exec .offerReceived s = .next
        { s with link := { s.link with rx := rest,
                                       custody := s.link.custody ++ [⟨⟨s.loader.own, origin, .accept p.token⟩, 0⟩] },
                 handoff := { s.handoff with expect := some ⟨{ p with hops := min 15 (p.hops + 1) }, origin⟩,
                                             transit := some s.cfg.transitMs } })) ∧
    (¬ s.running ∨ dest = 0 → exec .offerReceived s = .next { s with link := { s.link with rx := rest } })

/-- R33, R34, R37: an ACCEPT taken in RUN with a custody slot free: one that matches the outstanding offer of an OFFERED
entry releases the pack below HOLD (IN_TRANSIT toward its target, EXIT high for the gate time) and is withdrawn at HOLD or
STOP; one that matches no offer is answered with WITHDRAW, at every role (the model's reading, log 15). R45: one that
matches the re-offer of an ADRIFT entry clears the offer and the restart mark and restarts the
adrift timer, at any hazard. -/
def Obligations.AcceptReleasesPack : Prop :=
  ∀ (origin dest : Nat) (tok : Token) (rest : List Telegram) (s : State),
    s.link.rx = ⟨origin, dest, .accept tok⟩ :: rest → origin ≠ s.loader.own → origin ≠ 0 → s.running → dest ≠ 0 →
    s.link.custody.length < 4 →
    (s.handoff.offer = some ⟨tok, origin⟩ → requestApplies s tok .offered = true → Hazard.rank s.hazard.line < 2 →
      ∃ t, exec .acceptReceived s = .next t
        ∧ t.handoff = { s.handoff with offer := none, reply := none, exitGate := true, gate := some s.cfg.gateMs }
        ∧ t.custody.list = s.custody.list.map (fun e => if e.pack.token = tok then
            { e with state := .inTransit, target := origin, adrift := none, restart := false } else e)
        ∧ t.link = { s.link with rx := rest } ∧ OnlyTouches [.custody, .handoff, .link] s t) ∧
    (s.handoff.offer = some ⟨tok, origin⟩ → requestApplies s tok .offered = true → 2 ≤ Hazard.rank s.hazard.line →
      ∃ t, exec .acceptReceived s = .next t
        ∧ t.handoff = { s.handoff with offer := none, reply := none, retry := some s.cfg.retryMs }
        ∧ t.link = { s.link with rx := rest,
                                 custody := s.link.custody ++ [⟨⟨s.loader.own, origin, .withdraw tok⟩, 0⟩] }
        ∧ t.custody.list = s.custody.list.map (fun e => if e.pack.token = tok then { e with state := .ready } else e)
        ∧ t.custody.counts.withdrawals = s.custody.counts.withdrawals.bump) ∧
    (s.handoff.offer ≠ some ⟨tok, origin⟩ → exec .acceptReceived s = .next
      { s with link := { s.link with rx := rest,
                                     custody := s.link.custody ++ [⟨⟨s.loader.own, origin, .withdraw tok⟩, 0⟩] },
               custody := { s.custody with counts := { s.custody.counts with
                 withdrawals := s.custody.counts.withdrawals.bump } } }) ∧
    (∀ e, s.handoff.offer = some ⟨tok, origin⟩ → findEntry s tok = some e → e.state = .adrift →
      exec .acceptReceived s = .next
        { s with link := { s.link with rx := rest }, handoff := { s.handoff with offer := none, reply := none },
                 custody := { s.custody with
                   list := s.custody.list.map fun x => if x.pack.token = tok then
                     { x with restart := false, adrift := some (2 * s.cfg.transitMs) } else x } })

/-- R35, R37, R38: a REFUSE taken in RUN: one that matches the outstanding offer of an OFFERED entry returns the entry to
READY with the reason recorded, counts it and starts the retry timer; R45: one that matches the re-offer of an ADRIFT entry
clears the offer and starts the retry timer, the entry and the counts as they were; one that matches no offer changes nothing. A WITHDRAW
taken in RUN that names the token of the open expectation closes it and stops the transit timer: no telegram is sent, no count
rises, no cause is raised; any other is discarded. R42: a line hazard of HOLD or STOP taken while an OFFERED entry's offer is
outstanding withdraws it: WITHDRAW to its target, the offer cleared, the entry READY, the withdrawal counted, the retry timer
started; below HOLD, and under a re-offer, nothing changes. -/
def Obligations.RefuseAndWithdrawEndWaits : Prop :=
  (∀ (origin dest : Nat) (tok : Token) (r : Reason) (rest : List Telegram) (s : State),
    s.link.rx = ⟨origin, dest, .refuse tok r⟩ :: rest → origin ≠ s.loader.own → origin ≠ 0 → s.running → dest ≠ 0 →
    (s.handoff.offer = some ⟨tok, origin⟩ → requestApplies s tok .offered = true →
      exec .refuseReceived s = .next
        { s with link := { s.link with rx := rest },
                 handoff := { s.handoff with offer := none, reply := none, retry := some s.cfg.retryMs },
                 custody := { s.custody with
                   list := s.custody.list.map fun e => if e.pack.token = tok then
                     { e with refusal := some r, state := .ready } else e,
                   counts := { s.custody.counts with refusalsReceived := s.custody.counts.refusalsReceived.bump } } }) ∧
    (∀ e, s.handoff.offer = some ⟨tok, origin⟩ → findEntry s tok = some e → e.state = .adrift →
      exec .refuseReceived s = .next
        { s with link := { s.link with rx := rest },
                 handoff := { s.handoff with offer := none, reply := none, retry := some s.cfg.retryMs } }) ∧
    (s.handoff.offer ≠ some ⟨tok, origin⟩ → exec .refuseReceived s = .next { s with link := { s.link with rx := rest } })) ∧
  (∀ (origin dest : Nat) (tok : Token) (rest : List Telegram) (s : State),
    s.link.rx = ⟨origin, dest, .withdraw tok⟩ :: rest → origin ≠ s.loader.own → origin ≠ 0 → s.running → dest ≠ 0 →
    (∀ x, s.handoff.expect = some x → x.pack.token = tok → exec .withdrawReceived s = .next
      { s with link := { s.link with rx := rest }, handoff := { s.handoff with expect := none, transit := none } }) ∧
    ((∀ x, s.handoff.expect = some x → x.pack.token ≠ tok) → exec .withdrawReceived s = .next
      { s with link := { s.link with rx := rest } })) ∧
  (∀ (o : Offer) (s : State), s.running → Role.offers s.cfg.role = true → s.handoff.offer = some o →
    (2 ≤ Hazard.rank s.hazard.line → requestApplies s o.token .offered = true → s.link.custody.length < 4 →
      handoffTakesHazard s =
        ({ s with link := { s.link with
                    custody := s.link.custody ++ [⟨⟨s.loader.own, o.target, .withdraw o.token⟩, 0⟩] },
                  handoff := { s.handoff with offer := none, reply := none, retry := some s.cfg.retryMs },
                  custody := { s.custody with
                    list := s.custody.list.map fun e => if e.pack.token = o.token then { e with state := .ready } else e,
                    counts := { s.custody.counts with withdrawals := s.custody.counts.withdrawals.bump } } }, [])) ∧
    (Hazard.rank s.hazard.line < 2 ∨ requestApplies s o.token .offered = false → handoffTakesHazard s = (s, [])))

/-- R18, R41: an ARRIVED taken in RUN: the entry with its token, IN_TRANSIT or ADRIFT, leaves the list and is counted handed,
with no tally record; one that names no such entry is stray: it is counted, and the list is unchanged. -/
def Obligations.ArrivedHandsEntryOver : Prop :=
  ∀ (origin dest : Nat) (tok : Token) (rest : List Telegram) (s : State),
    s.link.rx = ⟨origin, dest, .arrived tok⟩ :: rest → origin ≠ s.loader.own → origin ≠ 0 → s.running → dest ≠ 0 →
    (∀ e, findEntry s tok = some e → e.state = .inTransit ∨ e.state = .adrift →
      ∃ t, exec .arrivedReceived s = .next t
        ∧ t.custody.list.map Entry.identity = (s.custody.list.filter fun e' => e'.pack.token != tok).map Entry.identity
        ∧ t.custody.counts.handed = s.custody.counts.handed.bump ∧ t.tally = s.tally ∧ t.link.rx = rest) ∧
    ((∀ e, findEntry s tok = some e → e.state ≠ .inTransit ∧ e.state ≠ .adrift) →
      exec .arrivedReceived s = .next
        { s with link := { s.link with rx := rest },
                 custody := { s.custody with counts := { s.custody.counts with
                   strayArrived := s.custody.counts.strayArrived.bump } } })

/-- R19, R22, R41, R46: an entry is lost when its adrift timer expires while it is ADRIFT, and when a MISSING taken in RUN
names it IN_TRANSIT or ADRIFT: it leaves the list and is counted, its LOST record is appended to a filling bank with room,
CUSTODY_DISCREPANCY is raised. A MISSING that names no such entry is stray. -/
def Obligations.LostEntriesAreRecorded : Prop :=
  (∀ (e : Entry) (s : State), s.running → findEntry s e.pack.token = some e → e.state = .adrift →
    e.adrift = some 0 →
    ∃ t, exec (.adriftExpiry e.pack.token) s = .next t
      ∧ t.custody.list.map Entry.identity
          = (s.custody.list.filter fun e' => e'.pack.token != e.pack.token).map Entry.identity
      ∧ t.custody.counts.lost = s.custody.counts.lost.bump
      ∧ ((Tally.fillingBank s.tally).length < 32 → Tally.fillingBank t.tally = Tally.fillingBank s.tally ++
          [{ token := e.pack.token, cls := e.pack.cls, damaged := e.pack.damaged, outcome := .lost,
             verdict := e.pack.summary.map (·.verdict), energy := (e.pack.summary.map (·.energy)).getD 0,
             hops := e.pack.hops, marks := e.pack.marks.length, overflow := e.pack.overflow, peak := none,
             time := s.clock, dwell := (s.clock - e.entered).toNat / 1000 }])
      ∧ Latched t .custody) ∧
  (∀ (origin dest : Nat) (tok : Token) (rest : List Telegram) (s : State),
    s.link.rx = ⟨origin, dest, .missing tok⟩ :: rest → origin ≠ s.loader.own → origin ≠ 0 → s.running → dest ≠ 0 →
    (∀ e, findEntry s tok = some e → e.state = .inTransit ∨ e.state = .adrift →
      ∃ t, exec .missingReceived s = .next t
        ∧ t.custody.list.map Entry.identity = (s.custody.list.filter fun e' => e'.pack.token != tok).map Entry.identity
        ∧ t.custody.counts.lost = s.custody.counts.lost.bump
        ∧ t.tally = (appendRecord (tallyRecord e.pack e.entered .lost none s) s).tally ∧ Latched t .custody) ∧
    ((∀ e, findEntry s tok = some e → e.state ≠ .inTransit ∧ e.state ≠ .adrift) →
      exec .missingReceived s = .next
        { s with link := { s.link with rx := rest },
                 custody := { s.custody with counts := { s.custody.counts with
                   strayMissing := s.custody.counts.strayMissing.bump } } }))

/-! ## Peer view -/

/-- R149 to R152, R154 to R157: a STATUS of another station taken in JOIN, TEST, BASELINE or RUN fills its peer entry, FRESH,
with both timers started from the period it declares, the missed count raised by the gap of a FRESH peer and the restarts by a
fresh start; an ALARM that the listen table matches sets its listened hazard. The peer level and the silence condition are
worked out afresh, and no other entry changes. In other phases the telegram is discarded. -/
def Obligations.PeerTelegramsUpdateEntry : Prop :=
  (∀ (p : PeerId) (dest : Nat) (f : StatusFields) (rest : List Telegram) (s : State),
    s.link.rx = ⟨p.val + 1, dest, .status f⟩ :: rest → p.val + 1 ≠ s.loader.own →
    (s.loader.phase = .join ∨ s.loader.phase = .test ∨ s.loader.phase = .baseline ∨ s.running →
      let e := s.peers.entries[p]
      let period := max 5 (min 100 f.period) * 10
      let gap := fun m => (f.seq + 256 - m) % 256
      ∃ t, exec .statusReceived s = .next t ∧ t.link.rx = rest
        ∧ t.peers.entries[p] =
            { heard := true, role := f.role, phase := some f.phase, hazard := f.hazard, listened := f.hazard,
              atmos := f.atmos, free := f.free, count := f.count, flags := f.flags, due := f.due, clamped := f.clamped,
              seq := some f.seq, period := some period, lastHeard := some s.clock, freshness := .fresh,
              stale := some (2 * period), silent := some (4 * period), taken := e.taken + 1,
              missed := (match e.seq with
                | some m => if f.fresh = false ∧ e.heard = true ∧ e.freshness = .fresh ∧ 2 ≤ gap m
                    then e.missed + BitVec.ofNat 32 (gap m - 1) else e.missed
                | none => e.missed),
              silences := e.silences, restarts := (if f.fresh then e.restarts + 1 else e.restarts) }
        ∧ (∀ q : PeerId, q ≠ p → t.peers.entries[q] = s.peers.entries[q])
        ∧ t.peers.level = peerLevel t ∧ t.peers.silent = peerSilentCondition t) ∧
    (s.loader.phase = .load ∨ s.loader.phase = .check ∨ s.loader.phase = .faulted →
      exec .statusReceived s = .next { s with link := { s.link with rx := rest } })) ∧
  (∀ (p : PeerId) (dest zone point : Nat) (c : Cause) (l : Level) (h : Hazard) (rest : List Telegram) (s : State),
    s.link.rx = ⟨p.val + 1, dest, .alarm c zone point l h⟩ :: rest → p.val + 1 ≠ s.loader.own →
    (s.loader.phase = .join ∨ s.loader.phase = .test ∨ s.loader.phase = .baseline ∨ s.running →
      ∃ t, exec .alarmReceived s = .next t ∧ t.link.rx = rest
        ∧ t.peers.entries[p] =
            { s.peers.entries[p] with
              hazard := h,
              listened := if alarmMatches s.cfg (p.val + 1) zone then h else s.peers.entries[p].listened }
        ∧ (∀ q : PeerId, q ≠ p → t.peers.entries[q] = s.peers.entries[q]) ∧ t.peers.level = peerLevel t) ∧
    (s.loader.phase = .load ∨ s.loader.phase = .check ∨ s.loader.phase = .faulted →
      exec .alarmReceived s = .next { s with link := { s.link with rx := rest } }))

/-- R149, R116, R168: a telegram that bears the station's own number raises the duplicates count and, in RUN, LINK_FAULT, and
one that bears 0 the bad-origins count; no peer entry changes. A REPORT is dropped. -/
def Obligations.BadOriginsAreCounted : Prop :=
  (∀ (t0 : Telegram) (rest : List Telegram) (s : State), s.link.rx = t0 :: rest → t0.origin = s.loader.own →
    s.loader.phase = .join ∨ s.loader.phase = .test ∨ s.loader.phase = .baseline ∨ s.running →
    ∃ t, exec .duplicateStation s = .next t ∧ t.link.rx = rest
      ∧ t.peers = { s.peers with duplicates := s.peers.duplicates.bump } ∧ (s.running → Latched t .link)
      ∧ (¬ s.running → t.hazard = s.hazard)) ∧
  (∀ (t0 : Telegram) (rest : List Telegram) (s : State), s.link.rx = t0 :: rest → t0.origin = 0 → s.loader.own ≠ 0 →
    s.loader.phase = .join ∨ s.loader.phase = .test ∨ s.loader.phase = .baseline ∨ s.running →
    exec .duplicateStation s = .next
      { s with link := { s.link with rx := rest },
               peers := { s.peers with badOrigins := s.peers.badOrigins.bump } }) ∧
  (∀ (origin dest item index part : Nat) (ok : Bool) (answer : List Byte) (rest : List Telegram) (s : State),
    s.link.rx = ⟨origin, dest, .report item index ok part answer⟩ :: rest → origin ≠ s.loader.own → origin ≠ 0 →
    exec .reportReceived s = .next { s with link := { s.link with rx := rest } })

/-- R44, R153, R157: the stale timer makes a FRESH entry STALE; the silent timer makes it SILENT and counts the silence; a station
that went silent or restarted sets the entries in transit to it ADRIFT, with the restart mark on a restart, and an offer
outstanding to it is given up: the reply timer stopped, the retry timer started, its OFFERED entry READY; the grace timer's
expiry ends the grace time. The peer level and the silence condition are worked out afresh, and no other entry
changes. -/
def Obligations.PeerTimersAgeEntries : Prop :=
  (∀ (p : PeerId) (s : State), s.peers.entries[p].heard = true → s.peers.entries[p].freshness = .fresh →
    s.peers.entries[p].stale = some 0 →
    ∃ t, exec (.staleTimerExpiry p) s = .next t
      ∧ t.peers.entries[p] = { s.peers.entries[p] with freshness := .stale, stale := none }
      ∧ (∀ q : PeerId, q ≠ p → t.peers.entries[q] = s.peers.entries[q])
      ∧ t.peers.level = peerLevel t ∧ t.peers.silent = peerSilentCondition t) ∧
  (∀ (p : PeerId) (s : State), s.peers.entries[p].heard = true → s.peers.entries[p].freshness ≠ .silent →
    s.peers.entries[p].silent = some 0 →
    ∃ t, exec (.silentTimerExpiry p) s = .next t
      ∧ t.peers.entries[p] = { s.peers.entries[p] with freshness := .silent, stale := none, silent := none,
                                                       silences := s.peers.entries[p].silences + 1 }
      ∧ (∀ q : PeerId, q ≠ p → t.peers.entries[q] = s.peers.entries[q])
      ∧ t.peers.level = peerLevel t ∧ t.peers.silent = peerSilentCondition t
      ∧ t.custody.list.map Entry.identity = s.custody.list.map Entry.identity) ∧
  (∀ (n : Nat) (restarted : Bool) (s : State), s.running → Role.offers s.cfg.role = true →
    (∀ o, s.handoff.offer = some o → o.target ≠ n) →
    (takeDownstreamLost n restarted s).1 = { s with custody := { s.custody with
      list := s.custody.list.map fun e =>
        if e.target = n ∧ e.state = .inTransit then
          { e with state := .adrift, adrift := some (2 * s.cfg.transitMs), restart := restarted }
        else if e.target = n ∧ e.state = .adrift then { e with restart := e.restart || restarted }
        else e } }) ∧
  (∀ (n : Nat) (restarted : Bool) (o : Offer) (s : State), s.running → Role.offers s.cfg.role = true →
    s.handoff.offer = some o → o.target = n →
    let lost := fun e : Entry =>
      if e.target = n ∧ e.state = .inTransit then
        { e with state := .adrift, adrift := some (2 * s.cfg.transitMs), restart := restarted }
      else if e.target = n ∧ e.state = .adrift then { e with restart := e.restart || restarted }
      else e
    let handoff := { s.handoff with offer := none, reply := none, retry := some s.cfg.retryMs }
    (requestApplies s o.token .offered = true → (takeDownstreamLost n restarted s).1 =
      { s with handoff := handoff, custody := { s.custody with list := s.custody.list.map fun e =>
        if e.pack.token = o.token then { e with state := .ready } else lost e } }) ∧
    (requestApplies s o.token .offered = false → (takeDownstreamLost n restarted s).1 =
      { s with handoff := handoff, custody := { s.custody with list := s.custody.list.map lost } })) ∧
  (∀ s : State, s.peers.grace = some 0 →
    ∃ t, exec .graceTimerExpiry s = .next t ∧ t.peers.grace = none ∧ t.peers.gracePassed = true
      ∧ t.peers.entries = s.peers.entries ∧ t.peers.silent = peerSilentCondition t)

/-! ## Line bus -/

/-- R124, R170, R171: the station status timer expires: a STATUS enters the empty slot with the next sequence number; it
replaces a waiting STATUS, taking its number, its attempts and its flags beside its own; or it is held while the slot's STATUS
is in transmission. The interval flags are cleared, the fresh-start flag disarmed, the timer restarted; nothing else
changes. -/
def Obligations.StatusTimerQueuesStatus : Prop :=
  ∀ s : State, joined s → s.link.statusTimer = some 0 →
    let f := statusFields s
    let flags := { s.hazard with flags := IntervalFlags.clear }
    (s.link.status = none → exec .stationStatusTimerExpiry s = .next
      { s with hazard := flags,
               link := { s.link with status := some ⟨⟨s.loader.own, 0, .status { f with seq := s.link.nextSeq }⟩, 0⟩,
                                     nextSeq := (s.link.nextSeq + 1) % 256, fresh := false,
                                     statusTimer := some s.cfg.statusMs } }) ∧
    (∀ origin dest old n, s.link.status = some ⟨⟨origin, dest, .status old⟩, n⟩ → s.link.sending ≠ some .status →
      exec .stationStatusTimerExpiry s = .next
        { s with hazard := flags,
                 link := { s.link with
                   status := some ⟨⟨s.loader.own, 0, .status { f with
                     seq := old.seq, fresh := old.fresh || s.link.fresh,
                     flags := ⟨old.flags.pointAlarm || f.flags.pointAlarm, old.flags.zonePending || f.flags.zonePending,
                               old.flags.discrepancy || f.flags.discrepancy, old.flags.linkErrors || f.flags.linkErrors⟩
                     }⟩, n⟩,
                   fresh := false, statusTimer := some s.cfg.statusMs,
                   counts := { s.link.counts with replacements := s.link.counts.replacements.bump } } }) ∧
    (s.link.status.isSome = true → s.link.sending = some .status → s.link.heldStatus = none →
      exec .stationStatusTimerExpiry s = .next
        { s with hazard := flags,
                 link := { s.link with heldStatus := some ⟨⟨s.loader.own, 0, .status f⟩, 0⟩, fresh := false,
                                       statusTimer := some s.cfg.statusMs } }) ∧
    (s.running → f.role = s.cfg.role ∧ f.phase = .run ∧ f.hazard = s.hazard.station ∧ f.atmos = s.chamber.state
      ∧ f.free = freeCapacity s ∧ f.count = s.custody.list.length ∧ f.flags = s.hazard.flags ∧ f.due = s.tally.due
      ∧ f.clamped = s.loader.clamped ∧ f.fresh = s.link.fresh ∧ f.period = s.cfg.statusMs / 10)

/-- R164: in IDLE an attempt drives the frame of the head of the lowest class queued, ALARM before custody before STATUS
before REPORT; a read-back that agrees with every bit driven takes the telegram out of its slot into GAP and counts it sent,
and a held STATUS takes the emptied slot with the next sequence number (R170). -/
def Obligations.AttemptSendsLowestClass : Prop :=
  (∀ s : State, s.link.on = true → s.link.state = .idle →
    let begun := fun (c : TxClass) (sl : Slot) =>
      { s with link := { s.link with state := .sending, sending := some c, recessive := 0, dominant := 0,
                                     lossAt := none, ltx := .frame (lineBits (frameBytes sl.tg)) } }
    (∀ sl r, s.link.alarms = sl :: r → exec .transmitAttempt s = .next (begun .alarm sl)) ∧
    (∀ sl r, s.link.alarms = [] → s.link.custody = sl :: r → exec .transmitAttempt s = .next (begun .custody sl)) ∧
    (∀ sl, s.link.alarms = [] → s.link.custody = [] → s.link.status = some sl →
      exec .transmitAttempt s = .next (begun .status sl)) ∧
    (∀ sl, s.link.alarms = [] → s.link.custody = [] → s.link.status = none → s.link.report = some sl →
      exec .transmitAttempt s = .next (begun .report sl)) ∧
    (s.link.alarms = [] → s.link.custody = [] → s.link.status = none → s.link.report = none →
      exec .transmitAttempt s = .next s)) ∧
  (∀ (bits : List Bool) (s : State), s.link.state = .sending → s.link.ltx = .frame bits →
    let l := { s.link with state := .gap, sending := none, ltx := .recessive, recessive := 0, dominant := 0,
                           lossAt := none, counts := { s.link.counts with sent := s.link.counts.sent.bump } }
    (s.link.sending = some .alarm →
      exec (.telegramSent bits) s = .next { s with link := { l with alarms := s.link.alarms.tail } }) ∧
    (s.link.sending = some .custody →
      exec (.telegramSent bits) s = .next { s with link := { l with custody := s.link.custody.tail } }) ∧
    (s.link.sending = some .status → s.link.heldStatus = none →
      exec (.telegramSent bits) s = .next { s with link := { l with status := none } }) ∧
    (∀ origin dest f n, s.link.sending = some .status → s.link.heldStatus = some ⟨⟨origin, dest, .status f⟩, n⟩ →
      exec (.telegramSent bits) s = .next
        { s with link := { l with heldStatus := none, nextSeq := (s.link.nextSeq + 1) % 256,
                                  status := some ⟨⟨origin, dest, .status { f with seq := s.link.nextSeq }⟩, 0⟩ } }) ∧
    (s.link.sending = some .report →
      exec (.telegramSent bits) s = .next { s with link := { l with report := none } }))

/-- R124, R165, R166: a recessive bit of the arbitration byte's data read dominant is an arbitration loss: the sender follows
the winner, the telegram keeps its place and its attempts. Any other bit read wrong is judged when the line is next read
recessive: a bit error, the attempt counted, SETTLING, and the telegram dropped at its eighth attempt, with LINK_FAULT raised
in RUN. Till then nothing is changed; a dominant run that reaches 16 bit times with the wrong bit in it is a stop burst
(R173), nothing of the attempt counted. Shown with no STATUS held. -/
def Obligations.LossesAndBitErrorsEndAttempt : Prop :=
  ∀ (c : TxClass) (sl : Slot) (driven : List Bool) (k : Nat) (d : Bool) (s : State), s.link.state = .sending →
    s.link.sending = some c → classHead s.link c = some sl → s.link.ltx = .frame driven → driven[k]? = some d →
    s.link.heldStatus = none →
    let wrong := driven.take k ++ [!d]
    let n := dominantRun 0 wrong
    (d = true → 1 ≤ k → k ≤ 8 → exec (.arbitrationLost wrong) s = .next
      { s with link := { s.link with state := .receiving, sending := none, ltx := .recessive, recessive := 0,
                                     dominant := dominantRun s.link.dominant wrong, lossAt := some k,
                                     counts := { s.link.counts with losses := s.link.counts.losses.bump } } }) ∧
    (∀ readBack, ¬ (d = true ∧ 1 ≤ k ∧ k ≤ 8) → sl.attempts < 7 →
      (d = false ∧ readBack = wrong)
        ∨ (d = true ∧ ∃ m, n + m < 16 ∧ readBack = wrong ++ List.replicate m false ++ [true]) →
      ∃ t, exec (.bitError readBack) s = .next t ∧ t.link.state = .settling ∧ t.link.sending = none
        ∧ t.link.ltx = .recessive ∧ classHead t.link c = some { sl with attempts := sl.attempts + 1 }
        ∧ t.link.counts = { s.link.counts with bitErrors := s.link.counts.bitErrors.bump }
        ∧ t.hazard = (if s.running then { s.hazard with flags := { s.hazard.flags with linkErrors := true } } else s.hazard)
        ∧ OnlyTouches [.link, .hazard] s t) ∧
    (∀ readBack, ¬ (d = true ∧ 1 ≤ k ∧ k ≤ 8) → 7 ≤ sl.attempts →
      (d = false ∧ readBack = wrong)
        ∨ (d = true ∧ ∃ m, n + m < 16 ∧ readBack = wrong ++ List.replicate m false ++ [true]) →
      ∃ t, exec (.bitError readBack) s = .next t ∧ (t.link.state = .settling ∨ t.link.state = .emitting)
        ∧ t.link.counts.bitErrors = s.link.counts.bitErrors.bump
        ∧ t.link.counts.retryDrops = s.link.counts.retryDrops.bump
        ∧ (c = .custody → s.link.custody.tail <+: t.link.custody) ∧ (c = .report → t.link.report = none)
        ∧ (s.running → Latched t .link) ∧ (¬ s.running → t.hazard = s.hazard)) ∧
    (∀ m, d = true → 8 < k ∨ k = 0 → n + m < 16 →
      exec (.bitError (wrong ++ List.replicate m false)) s = .next s) ∧
    (∀ m, d = true → 8 < k ∨ k = 0 → n + m = 16 →
      ∃ t, exec (.bitError (wrong ++ List.replicate m false)) s = .next t
        ∧ (t.link.state = .settling ∨ t.link.state = .emitting)
        ∧ t.link.counts.burstsDetected = s.link.counts.burstsDetected.bump
        ∧ t.link.counts.bitErrors = s.link.counts.bitErrors ∧ t.link.counts.retryDrops = s.link.counts.retryDrops
        ∧ t.link.counts.losses = s.link.counts.losses ∧ s.link.custody <+: t.link.custody
        ∧ t.link.report = s.link.report
        ∧ (s.running → t.hazard.stopHold = some s.cfg.stopHoldMs ∧ causeActive t .lineStop = true)
        ∧ (¬ s.running → t.hazard = s.hazard))

/-- R161, R162, R195: the form check reads back, from the bytes that are sent, every telegram a station can send. A REPORT of an
undefined item, which the form check takes for no telegram, is not among them (the model's reading, log 23), nor is one that
answers a part above 15, of which four bits are sent; that such a part of a QUERY passes is the model's choice too (log 45). -/
def Obligations.TelegramBytesReadBack : Prop :=
  ∀ t : Telegram, Telegram.wf t → readTelegram (telegramBytes t) = some t ∧ (frameBytes t).length ≤ 30

/-- R161 to R163, R167, R168, R195: the characters of a telegram's frame, followed from its first one, bring the telegram
to the receive queue when it is addressed to the station or to all, or bears the station's number or 0, and to no queue
otherwise; a fifth telegram is overrun. A whole frame whose CRC does not agree, and one whose CRC agrees and whose bytes
fail the form check, is discarded and counted as such. GAP follows. -/
def Obligations.FramesReachReceiveQueue : Prop :=
  (∀ (m : Telegram) (s : State), Telegram.wf m → s.link.on = true → LinkState.follows s.link.state = true →
    let chars := (frameBytes m).map charOf
    let l := { s.link with state := .gap, recessive := 0, dominant := 0, lossAt := none }
    let mine := m.dest = s.loader.own ∨ m.dest = 0 ∨ m.origin = s.loader.own ∨ m.origin = 0
    (mine → s.link.rx.length < 4 → exec (.frameReceived chars) s = .next
      { s with link := { l with rx := s.link.rx ++ [m],
                                counts := { s.link.counts with received := s.link.counts.received.bump } } }) ∧
    (mine → 4 ≤ s.link.rx.length → exec (.frameReceived chars) s = .next
      { s with link := { l with counts := { s.link.counts with overruns := s.link.counts.overruns.bump } },
               hazard := (if s.running then { s.hazard with flags := { s.hazard.flags with linkErrors := true } }
                 else s.hazard) }) ∧
    (¬ mine → exec (.frameReceived chars) s = .next { s with link := l })) ∧
  (∀ (bytes : List Byte) (n : Byte) (s : State), s.link.on = true → LinkState.follows s.link.state = true →
    bytes[3]? = some n → n.toNat ≤ 24 → bytes.length = 6 + n.toNat →
    let agrees := bytes.drop (bytes.length - 2) = beBytes 2 (crc16 (bytes.take (bytes.length - 2))).toNat
    let after := fun counts : LinkCounts =>
      { s with link := { s.link with state := .gap, recessive := 0, dominant := 0, lossAt := none, counts },
               hazard := (if s.running then { s.hazard with flags := { s.hazard.flags with linkErrors := true } }
                 else s.hazard) }
    (¬ agrees → exec (.frameReceived (bytes.map charOf)) s
      = .next (after { s.link.counts with crc := s.link.counts.crc.bump })) ∧
    (agrees → readTelegram (bytes.take (bytes.length - 2)) = none → exec (.frameReceived (bytes.map charOf)) s
      = .next (after { s.link.counts with form := s.link.counts.form.bump })))

/-- R161, R163, R167, R172: a character with a recessive start bit is a framing error (the first character of a frame
too: the model's choice, log 43), one whose data and parity bits hold an odd number of ones a parity error, a length byte above 24 a form error: each is counted and leads to
SETTLING. A dominant stop bit is judged with the bits after it: recessive before the dominant run reaches 16 bit times, a
framing error; at 16, a stop burst, no error counted, an arbitration loss in that run set back (R165, R173). A completed run of
recessive bits leads from SETTLING (12) and GAP (3) to IDLE, and a stop burst's end from EMITTING to SETTLING with LTX recessive. -/
def Obligations.LineRunsAndFrameErrors : Prop :=
  (∀ (bytes : List Byte) (ch : BitVec 11) (s : State), bytes.length ≤ 3 → s.link.on = true →
    LinkState.follows s.link.state = true →
    let after := fun counts : LinkCounts =>
      { s with link := { s.link with state := .settling, recessive := 0, dominant := 0, lossAt := none, counts },
               hazard := (if s.running then { s.hazard with flags := { s.hazard.flags with linkErrors := true } }
                 else s.hazard) }
    let counts := s.link.counts
    let chars := bytes.map charOf ++ [ch]
    let n := dominantRun 0 (natBits 11 ch.toNat)
    (ch.getLsbD 10 = true → exec (.frameError ⟨chars, []⟩) s
      = .next (after { counts with framing := counts.framing.bump })) ∧
    (ch.getLsbD 10 = false → ch.getLsbD 0 = false → ∀ m,
      (n + m < 16 → exec (.frameError ⟨chars, List.replicate m false ++ [true]⟩) s
        = .next (after { counts with framing := counts.framing.bump })) ∧
      (n + m < 16 → exec (.frameError ⟨chars, List.replicate m false⟩) s = .next s) ∧
      (n + m = 16 → ∃ t, exec (.frameError ⟨chars, List.replicate m false⟩) s = .next t
        ∧ (t.link.state = .settling ∨ t.link.state = .emitting)
        ∧ t.link.counts.burstsDetected = counts.burstsDetected.bump ∧ t.link.counts.framing = counts.framing
        ∧ t.link.counts.losses = (if bytes = [] ∧ s.link.lossAt.any (fun k => ((natBits 11 ch.toNat).drop k).all (!·)) = true
            then counts.losses.unbump else counts.losses)
        ∧ (s.running → t.hazard.stopHold = some s.cfg.stopHoldMs ∧ causeActive t .lineStop = true)
        ∧ (¬ s.running → t.hazard = s.hazard))) ∧
    (ch.getLsbD 10 = false → ch.getLsbD 0 = true → (natBits 11 ch.toNat).count true % 2 = 0 →
      exec (.frameError ⟨chars, []⟩) s = .next (after { counts with parity := counts.parity.bump })) ∧
    (∀ n : Byte, bytes.length = 3 → 24 < n.toNat →
      exec (.frameError ⟨bytes.map charOf ++ [charOf n], []⟩) s
        = .next (after { counts with form := counts.form.bump }))) ∧
  (∀ (bits : List Bool) (s : State), s.link.on = true → (∀ b ∈ bits, b = true) →
    s.link.state = .settling ∧ s.link.recessive + bits.length = 12 ∧ bits ≠ []
      ∨ s.link.state = .gap ∧ s.link.recessive + bits.length = 3 ∧ bits ≠ [] →
    exec (.linkIdle bits) s = .next
      { s with link := { s.link with state := .idle, recessive := 0, dominant := 0, lossAt := none } }) ∧
  (∀ (n : Nat) (s : State), s.link.on = true → s.link.state = .emitting →
    (s.link.burstLeft ≤ n → exec (.stopBurstEnd n) s = .next
      { s with link := { s.link with state := .settling, ltx := .recessive, burstLeft := 0, recessive := 0, dominant := 0,
                                     lossAt := none } }) ∧
    (n < s.link.burstLeft → exec (.stopBurstEnd n) s = .next
      { s with link := { s.link with burstLeft := s.link.burstLeft - n } }))

/-! ## Atmosphere, rotor and feed -/

/-- R132, R134, R136: the settle timer's expiry brings the chamber from PURGE or DEGRADED to INERT with the valve closed and both
timers stopped; the purge timer's expiry sets the overrun and with it O2_HIGH (both shown with no round of self-tests in
progress). A zone's entry to CONFIRMED opens both valves and stops both timers. R132, R133: a change of the chamber oxygen
starts or clears the settle timer in PURGE and DEGRADED; in INERT it closes, keeps or opens the PURGE valve or leads to
DEGRADED. R135: FLOOD is left for PURGE when the last CONFIRMED zone is handed back, or at a restore with none CONFIRMED. -/
def Obligations.ChamberTimersAndFlood : Prop :=
  (∀ s : State, chamberActs s → s.chamber.settle = some 0 → s.chamber.state = .purge ∨ s.chamber.state = .degraded →
    ∃ t, exec .settleTimerExpiry s = .next t ∧ (s.calm → t.chamber =
      { s.chamber with state := .inert, purgeOpen := false, settle := none, purge := none, overrun := false,
                       o2High := decide (s.cfg.o2Alarm ≤ s.chamber.oxygen.getD 2501) })) ∧
  (∀ s : State, chamberActs s → s.chamber.purge = some 0 →
    ∃ t, exec .purgeTimerExpiry s = .next t
      ∧ (s.calm → t.chamber = { s.chamber with purge := none, overrun := true, o2High := true })) ∧
  (∀ (z : ZoneId) (s : State), chamberActs s →
    s.chamber.state = .purge ∨ s.chamber.state = .inert ∨ s.chamber.state = .degraded →
    let t := (chamberTakesConfirmed z s).1
    t.chamber.state = .flood ∧ t.chamber.purgeOpen = true ∧ t.chamber.floodOpen = true ∧ t.chamber.settle = none
      ∧ t.chamber.purge = none ∧ t.chamber.floods = s.chamber.floods.bump ∧ t.chamber.confirmed[z] = true) ∧
  (∀ s : State, chamberActs s → chamberOxygen s ≠ s.chamber.oxygen → s.cfg.o2Run < s.cfg.o2Warn →
    let before := s.chamber.oxygen.getD 2501
    let now := (chamberOxygen s).getD 2501
    let openAt := s.cfg.o2Run + (s.cfg.o2Warn - s.cfg.o2Run) / 2
    let t := (workOxygen s).1
    t.chamber.oxygen = chamberOxygen s
      ∧ (s.chamber.state = .purge ∨ s.chamber.state = .degraded →
          t.chamber.state = s.chamber.state ∧ t.chamber.purgeOpen = s.chamber.purgeOpen
          ∧ t.chamber.settle = (if s.cfg.o2Run < now then none
              else if s.cfg.o2Run < before then some s.cfg.settleMs else s.chamber.settle))
      ∧ (s.chamber.state = .inert →
          (now < s.cfg.o2Warn → t.chamber.state = .inert ∧ t.chamber.degradedEntries = s.chamber.degradedEntries
            ∧ t.chamber.purgeOpen = (if now ≤ s.cfg.o2Run then false
                else if now ≤ openAt then s.chamber.purgeOpen else true))
          ∧ (s.cfg.o2Warn ≤ now → t.chamber.state = .degraded ∧ t.chamber.purgeOpen = true ∧ t.chamber.settle = none
            ∧ t.chamber.purge = some s.cfg.purgeMs ∧ t.chamber.degradedEntries = s.chamber.degradedEntries.bump
            ∧ .rotorLook ∈ (workOxygen s).2 ∧ .feedLook ∈ (workOxygen s).2))) ∧
  (∀ (z : ZoneId) (s : State), chamberActs s →
    let left := fun t : State => t.chamber.state = .purge ∧ t.chamber.floodOpen = false ∧ t.chamber.purgeOpen = true
      ∧ t.chamber.purge = some s.cfg.purgeMs
      ∧ t.chamber.settle = (if s.chamber.oxygen.getD 2501 ≤ s.cfg.o2Run then some s.cfg.settleMs else none)
    (s.chamber.state = .flood → (∀ y : ZoneId, y ≠ z → s.chamber.confirmed[y] = false) →
      left (chamberTakesCleared z s).1 ∧ .rotorLook ∈ (chamberTakesCleared z s).2
        ∧ .feedLook ∈ (chamberTakesCleared z s).2) ∧
    (s.chamber.state ≠ .flood ∨ (∃ y : ZoneId, y ≠ z ∧ s.chamber.confirmed[y] = true) →
      (chamberTakesCleared z s).1 =
        { s with chamber := { s.chamber with confirmed := s.chamber.confirmed.set z false } }) ∧
    (s.chamber.state = .flood → (∀ y : ZoneId, s.chamber.confirmed[y] = false) → left (chamberTakesRestore s).1) ∧
    (s.chamber.state ≠ .flood ∨ (∃ y : ZoneId, s.chamber.confirmed[y] = true) → (chamberTakesRestore s).1 = s))

/-- R138 to R141, R116: the rotor monitor asserts RUN exactly when it looks and the conditions of RUN hold. A rotor pulse while
RUN is asserted restarts the stall timer; the second and later ones capture the period, and while the labour condition is
clear a first period at or below the labour time brings the rotor up to speed, a longer one then counts as slow, and a short
one sets the slow count back. The third slow period makes the labour condition, reported to the evaluator and looked at by
the feed monitor; the next short one ends it. The stall timer's expiry counts a stall and raises ROTOR_STALL. -/
def Obligations.RotorPulsesAndStall : Prop :=
  (∀ s : State, (mayTurn s → (rotorLook s).1.rotor.run = true) ∧ (¬ mayTurn s → (rotorLook s).1.rotor.run = false)) ∧
  (∀ (samples : List Bool) (s : State), chamberActs s → s.rotor.run = true → s.pins.rotor.rises samples = true →
    let pins := { s.pins with rotor := s.pins.rotor.run samples }
    let r := { s.rotor with last := some s.clock, stall := some s.cfg.stallMs }
    (s.rotor.last = none → exec (.rotorPulse samples) s = .next { s with pins := pins, rotor := r }) ∧
    (∀ before, s.rotor.last = some before → s.rotor.labour = false →
      let period := s.clock - before
      let r := { r with period := some period }
      (s.rotor.upToSpeed = false → period.toNat ≤ s.cfg.labourMs →
        exec (.rotorPulse samples) s = .next { s with pins := pins, rotor := { r with upToSpeed := true, slow := 0 } }) ∧
      (s.rotor.upToSpeed = false → s.cfg.labourMs < period.toNat →
        exec (.rotorPulse samples) s = .next { s with pins := pins, rotor := r }) ∧
      (s.rotor.upToSpeed = true → period.toNat ≤ s.cfg.labourMs →
        exec (.rotorPulse samples) s = .next { s with pins := pins, rotor := { r with slow := 0 } }) ∧
      (s.rotor.upToSpeed = true → s.cfg.labourMs < period.toNat → s.rotor.slow < 2 →
        exec (.rotorPulse samples) s = .next { s with pins := pins, rotor := { r with slow := s.rotor.slow + 1 } }) ∧
      (s.rotor.upToSpeed = true → s.cfg.labourMs < period.toNat → 2 ≤ s.rotor.slow →
        ∃ t, exec (.rotorPulse samples) s = .next t ∧ t.pins = pins ∧ t.rotor.period = some period
          ∧ t.rotor.stalls = s.rotor.stalls))) ∧
  (∀ (before : Clock) (s : State), s.rotor.last = some before → s.rotor.upToSpeed = true →
    let period := s.clock - before
    let r := { s.rotor with last := some s.clock, period := some period, stall := some s.cfg.stallMs }
    (s.cfg.labourMs < period.toNat → 2 ≤ s.rotor.slow → takeRotorPulse s =
      ({ s with rotor := { r with slow := 3, labour := true } },
        if s.rotor.labour then [] else [.fact (.labour true), .feedLook])) ∧
    (period.toNat ≤ s.cfg.labourMs → takeRotorPulse s =
      ({ s with rotor := { r with slow := 0, labour := false } },
        if s.rotor.labour then [.fact (.labour false), .feedLook] else []))) ∧
  (∀ s : State, chamberActs s → s.rotor.stall = some 0 →
    ∃ t, exec .stallTimerExpiry s = .next t ∧ t.rotor.stalls = s.rotor.stalls.bump ∧ Latched t .rotorStall
      ∧ t.custody.list.map Entry.identity = s.custody.list.map Entry.identity)

/-- R142, R144, R145: the feed monitor opens the gate for the oldest eligible READY entry while every feed condition holds, and
closes it, the entry READY again, when one is lost, in the very change that loses it (DESIGN CHOICE, log 4: before the hand-ons
of that change). The feed timer's expiry with an entry FEEDING closes it in the same way,
counts a timeout and raises CUSTODY_DISCREPANCY, and no pack leaves the list. -/
def Obligations.FeedOpensAndTimesOut : Prop :=
  (∀ (e : Entry) (s : State), feedingEntry s = none → feedCandidate s = some e → findEntry s e.pack.token = some e →
    (mayFeed s → (feedLook s).1.feed = { gate := true, timer := some s.cfg.feedMs, peak := some (s.chamber.oxygen.getD 2501),
                                         opened := s.feed.opened.bump, timeouts := s.feed.timeouts,
                                         returned := s.feed.returned }
      ∧ requestApplies (feedLook s).1 e.pack.token .feeding = true) ∧
    (¬ mayFeed s → (feedLook s).1 = s)) ∧
  (∀ (e : Entry) (s : State), feedingEntry s = some e → findEntry s e.pack.token = some e →
    let closed := fun t : State => t.feed.gate = false ∧ t.feed.timer = none ∧ t.feed.peak = none
      ∧ requestApplies t e.pack.token .ready = true ∧ t.feed.opened = s.feed.opened
    (¬ mayFeed s → closed (feedLook s).1 ∧ (feedLook s).1.feed.returned = s.feed.returned.bump
      ∧ (feedLook s).1.feed.timeouts = s.feed.timeouts) ∧
    (mayFeed s → (feedLook s).1 = s) ∧
    (closed (expireFeed e s).1 ∧ (expireFeed e s).1.feed.timeouts = s.feed.timeouts.bump
      ∧ (expireFeed e s).1.feed.returned = s.feed.returned
      ∧ (expireFeed e s).2 = [.raise .custody, .feedLook]) ∧
    (∀ (b : State) (ns : List Notice),
      (mayFeed b → ¬ mayFeed s → closed (Fx.closing b (s, ns)).1
        ∧ (Fx.closing b (s, ns)).1.feed.returned = s.feed.returned.bump ∧ (Fx.closing b (s, ns)).2 = ns) ∧
      (¬ mayFeed b ∨ mayFeed s → Fx.closing b (s, ns) = (s, ns)))) ∧
  (∀ (e : Entry) (s : State), chamberActs s → feedingEntry s = some e → s.feed.timer = some 0 →
    ∃ t, exec .feedTimerExpiry s = .next t ∧ t.feed.timeouts = s.feed.timeouts.bump ∧ Latched t .custody
      ∧ t.custody.list.map Entry.identity = s.custody.list.map Entry.identity)

/-! ## Service requests -/

/-- R179, R181 to R184: a QUERY of any item, taken by the command of its item: addressed to station 0 it is discarded; with a
REPORT still queued it is counted busy; in FAULTED every item but IDENTIFY is refused; otherwise one REPORT is queued to the
tool and counted. A record item answers the part asked for of its record; IDENTIFY, TALLY and TURN have one part; COUNTERS with
index 0 takes a new snapshot, and other indices read the one held; TURN with an index that is 0 or names the held bank empties
that bank and exchanges the banks, with one that names the filling bank it is answered NONE with the held bank's byte, and with
one above 2 NONE and nothing; an item that is not defined is answered NONE. Three readings are the model's: that
IDENTIFY, TALLY and TURN answer another part than 0 with NONE, the TURN not made, and that a NONE to a TURN carries the held
bank's byte for an index of Table 33 alone (log 12), that a snapshot is taken before its
own answer is counted (log 19), and the layouts of logs 11, 27, 31, 40, 41 and 44. -/
def Obligations.QueriesAreAnswered : Prop :=
  ∀ (tool dest item index part : Nat) (rest : List Telegram) (s : State),
    s.link.rx = ⟨tool, dest, .query item index part⟩ :: rest → tool ≠ s.loader.own → tool ≠ 0 →
    let link := { s.link with rx := rest }
    let answered := { s.responder with answered := s.responder.answered.bump }
    let report := fun (ok : Bool) (p : Nat) (bytes : List Byte) =>
      { link with report := some ⟨⟨s.loader.own, tool, .report item index ok p bytes⟩, 0⟩ }
    let reply := fun (p : Nat) (a : Option (List Byte)) => report a.isSome p (a.getD [])
    (dest = 0 → exec (queryCommand item) s = .next { s with link := link }) ∧
    (dest ≠ 0 → s.link.report.isSome = true → exec (queryCommand item) s = .next
      { s with link := link, responder := { s.responder with busy := s.responder.busy.bump } }) ∧
    (dest ≠ 0 → s.link.report = none → s.loader.phase = .faulted → item ≠ 1 → exec (queryCommand item) s = .next
      { s with link := link, responder := { s.responder with refused := s.responder.refused.bump } }) ∧
    (dest ≠ 0 → s.link.report = none → (s.loader.phase = .faulted → item = 1) →
      (item = 1 → exec (queryCommand item) s = .next
        { s with link := reply part (if part = 0 then some (identifyAnswer s) else none), responder := answered }) ∧
      (3 ≤ item → item ≤ 9 → exec (queryCommand item) s = .next
        { s with link := reply part (recordAnswer (recordOf s item index) part), responder := answered }) ∧
      (item = 10 → exec (queryCommand item) s = .next
        { s with link := reply part (if part = 0 then tallyAnswer s index else none), responder := answered }) ∧
      (item = 2 → index = 0 →
        let taken : Snapshot := { number := (s.responder.number + 1) % 256, clock := s.clock,
                                  entries := s.custody.list.length, counts := snapshotCounts s }
        exec (queryCommand item) s = .next
          { s with link := report true 0 (snapshotHeader taken),
                   responder := { answered with number := taken.number, snapshot := some taken } }) ∧
      (item = 2 → index ≠ 0 → exec (queryCommand item) s = .next
        { s with link := reply 0 (s.responder.snapshot.bind fun n => snapshotPart n index), responder := answered }) ∧
      (item = 11 → part = 0 → turnNamesHeld s.tally index = true →
        let turned : Tally :=
          { Tally.setBank s.tally (Tally.heldName s.tally) [] with
            filling := Tally.heldName s.tally, due := false, turns := s.tally.turns + 1,
            discarded := s.tally.discarded + BitVec.ofNat 32 (Tally.heldBank s.tally).length }
        exec (queryCommand item) s = .next
          { s with tally := turned, responder := answered,
                   link := report true 0 (byteOf (Tally.heldBank s.tally).length :: heldBankByte turned) }) ∧
      (item = 11 → index ≤ 2 → ¬ (part = 0 ∧ turnNamesHeld s.tally index = true) → exec (queryCommand item) s = .next
        { s with link := report false part (heldBankByte s.tally), responder := answered }) ∧
      (item = 11 → 2 < index → exec (queryCommand item) s = .next
        { s with link := report false part [], responder := answered }) ∧
      (item = 0 ∨ 12 ≤ item → exec (queryCommand item) s = .next
        { s with link := report false part [], responder := answered }))

/-! ## Laws that every step keeps -/

/-- R7, R9: a step from a state where no token is held twice and no more than 16 packs are held leads to such a state. The
start law (no pack and no interval round before RUN) goes with it. R23: so does the custody balance, intake + arrived + orphan = handed + lost +
shredded + removed + entries; R177: so does the tally's, appended + dropped = lifetime shredded + removed + lost, both modulo
2^32. -/
def Obligations.StepKeepsCustodyLaws : Prop :=
  ∀ s t : State, StartLaw s → CapacityLaw s → TokenLaw s → step s = .next t →
    StartLaw t ∧ CapacityLaw t ∧ TokenLaw t ∧ (BalanceLaw s → BalanceLaw t) ∧ (TallyLaw s → TallyLaw t)

/-- R120, R125: a step from a state whose hazards follow from the causes and whose SAFE and ALERT follow from them and the
phase leads to such a state. R142: while tokens stay unique, so does one from a state where FEED is open exactly while one
entry, eligible for feed, is FEEDING, with every feed condition holding. -/
def Obligations.StepKeepsOutputLaws : Prop :=
  ∀ s t : State, StartLaw s → step s = .next t →
    (HazardLaw s → OutputLaw s → HazardLaw t ∧ OutputLaw t) ∧ (CapacityLaw s → TokenLaw s → FeedLaw s → FeedLaw t)

/-- R54, R59, R168, R169, R177: every step keeps the queues and banks within their places, and LOADx at 0 outside
DISCHARGE; R178: and, in RUN, TALLY_DUE set while the filling bank is at or above the watermark. -/
def Obligations.StepKeepsQueueAndLoadLaws : Prop :=
  ∀ s t : State, step s = .next t → (QueueLaw s → QueueLaw t) ∧ (LoadLaw s → LoadLaw t) ∧ (DueLaw s → DueLaw t)

/-- The laws that every step keeps hold right after power-on reset. -/
def Obligations.ResetMeetsLaws : Prop :=
  StartLaw State.reset ∧ CapacityLaw State.reset ∧ TokenLaw State.reset ∧ HazardLaw State.reset ∧ OutputLaw State.reset
    ∧ QueueLaw State.reset ∧ LoadLaw State.reset ∧ BalanceLaw State.reset ∧ TallyLaw State.reset ∧ FeedLaw State.reset
    ∧ DueLaw State.reset
end

