-- ==== Sys2Proof/Laws/State.lean ====
section
/-! SUPPORT. One lemma per field per update of the state (true by rfl), so that no later proof unfolds an update. -/
namespace Sys2Proof.Machine

variable (s : State)

@[simp] theorem State.onPins_pending (f : Pins → Pins) : (s.onPins f).pending = s.pending := rfl
@[simp] theorem State.onPins_pins (f : Pins → Pins) : (s.onPins f).pins = f s.pins := rfl
@[simp] theorem State.onPins_loader (f : Pins → Pins) : (s.onPins f).loader = s.loader := rfl
@[simp] theorem State.onPins_cfg (f : Pins → Pins) : (s.onPins f).cfg = s.cfg := rfl
@[simp] theorem State.onPins_clock (f : Pins → Pins) : (s.onPins f).clock = s.clock := rfl
@[simp] theorem State.onPins_custody (f : Pins → Pins) : (s.onPins f).custody = s.custody := rfl
@[simp] theorem State.onPins_handoff (f : Pins → Pins) : (s.onPins f).handoff = s.handoff := rfl
@[simp] theorem State.onPins_channels (f : Pins → Pins) : (s.onPins f).channels = s.channels := rfl
@[simp] theorem State.onPins_points (f : Pins → Pins) : (s.onPins f).points = s.points := rfl
@[simp] theorem State.onPins_scanner (f : Pins → Pins) : (s.onPins f).scanner = s.scanner := rfl
@[simp] theorem State.onPins_zones (f : Pins → Pins) : (s.onPins f).zones = s.zones := rfl
@[simp] theorem State.onPins_hazard (f : Pins → Pins) : (s.onPins f).hazard = s.hazard := rfl
@[simp] theorem State.onPins_chamber (f : Pins → Pins) : (s.onPins f).chamber = s.chamber := rfl
@[simp] theorem State.onPins_rotor (f : Pins → Pins) : (s.onPins f).rotor = s.rotor := rfl
@[simp] theorem State.onPins_feed (f : Pins → Pins) : (s.onPins f).feed = s.feed := rfl
@[simp] theorem State.onPins_peers (f : Pins → Pins) : (s.onPins f).peers = s.peers := rfl
@[simp] theorem State.onPins_link (f : Pins → Pins) : (s.onPins f).link = s.link := rfl
@[simp] theorem State.onPins_tally (f : Pins → Pins) : (s.onPins f).tally = s.tally := rfl
@[simp] theorem State.onPins_responder (f : Pins → Pins) : (s.onPins f).responder = s.responder := rfl

@[simp] theorem State.onLoader_pending (f : Loader → Loader) : (s.onLoader f).pending = s.pending := rfl
@[simp] theorem State.onLoader_pins (f : Loader → Loader) : (s.onLoader f).pins = s.pins := rfl
@[simp] theorem State.onLoader_loader (f : Loader → Loader) : (s.onLoader f).loader = f s.loader := rfl
@[simp] theorem State.onLoader_cfg (f : Loader → Loader) : (s.onLoader f).cfg = s.cfg := rfl
@[simp] theorem State.onLoader_clock (f : Loader → Loader) : (s.onLoader f).clock = s.clock := rfl
@[simp] theorem State.onLoader_custody (f : Loader → Loader) : (s.onLoader f).custody = s.custody := rfl
@[simp] theorem State.onLoader_handoff (f : Loader → Loader) : (s.onLoader f).handoff = s.handoff := rfl
@[simp] theorem State.onLoader_channels (f : Loader → Loader) : (s.onLoader f).channels = s.channels := rfl
@[simp] theorem State.onLoader_points (f : Loader → Loader) : (s.onLoader f).points = s.points := rfl
@[simp] theorem State.onLoader_scanner (f : Loader → Loader) : (s.onLoader f).scanner = s.scanner := rfl
@[simp] theorem State.onLoader_zones (f : Loader → Loader) : (s.onLoader f).zones = s.zones := rfl
@[simp] theorem State.onLoader_hazard (f : Loader → Loader) : (s.onLoader f).hazard = s.hazard := rfl
@[simp] theorem State.onLoader_chamber (f : Loader → Loader) : (s.onLoader f).chamber = s.chamber := rfl
@[simp] theorem State.onLoader_rotor (f : Loader → Loader) : (s.onLoader f).rotor = s.rotor := rfl
@[simp] theorem State.onLoader_feed (f : Loader → Loader) : (s.onLoader f).feed = s.feed := rfl
@[simp] theorem State.onLoader_peers (f : Loader → Loader) : (s.onLoader f).peers = s.peers := rfl
@[simp] theorem State.onLoader_link (f : Loader → Loader) : (s.onLoader f).link = s.link := rfl
@[simp] theorem State.onLoader_tally (f : Loader → Loader) : (s.onLoader f).tally = s.tally := rfl
@[simp] theorem State.onLoader_responder (f : Loader → Loader) : (s.onLoader f).responder = s.responder := rfl

@[simp] theorem State.onCfg_pending (f : Config → Config) : (s.onCfg f).pending = s.pending := rfl
@[simp] theorem State.onCfg_pins (f : Config → Config) : (s.onCfg f).pins = s.pins := rfl
@[simp] theorem State.onCfg_loader (f : Config → Config) : (s.onCfg f).loader = s.loader := rfl
@[simp] theorem State.onCfg_cfg (f : Config → Config) : (s.onCfg f).cfg = f s.cfg := rfl
@[simp] theorem State.onCfg_clock (f : Config → Config) : (s.onCfg f).clock = s.clock := rfl
@[simp] theorem State.onCfg_custody (f : Config → Config) : (s.onCfg f).custody = s.custody := rfl
@[simp] theorem State.onCfg_handoff (f : Config → Config) : (s.onCfg f).handoff = s.handoff := rfl
@[simp] theorem State.onCfg_channels (f : Config → Config) : (s.onCfg f).channels = s.channels := rfl
@[simp] theorem State.onCfg_points (f : Config → Config) : (s.onCfg f).points = s.points := rfl
@[simp] theorem State.onCfg_scanner (f : Config → Config) : (s.onCfg f).scanner = s.scanner := rfl
@[simp] theorem State.onCfg_zones (f : Config → Config) : (s.onCfg f).zones = s.zones := rfl
@[simp] theorem State.onCfg_hazard (f : Config → Config) : (s.onCfg f).hazard = s.hazard := rfl
@[simp] theorem State.onCfg_chamber (f : Config → Config) : (s.onCfg f).chamber = s.chamber := rfl
@[simp] theorem State.onCfg_rotor (f : Config → Config) : (s.onCfg f).rotor = s.rotor := rfl
@[simp] theorem State.onCfg_feed (f : Config → Config) : (s.onCfg f).feed = s.feed := rfl
@[simp] theorem State.onCfg_peers (f : Config → Config) : (s.onCfg f).peers = s.peers := rfl
@[simp] theorem State.onCfg_link (f : Config → Config) : (s.onCfg f).link = s.link := rfl
@[simp] theorem State.onCfg_tally (f : Config → Config) : (s.onCfg f).tally = s.tally := rfl
@[simp] theorem State.onCfg_responder (f : Config → Config) : (s.onCfg f).responder = s.responder := rfl

@[simp] theorem State.onClock_pending (f : Clock → Clock) : (s.onClock f).pending = s.pending := rfl
@[simp] theorem State.onClock_pins (f : Clock → Clock) : (s.onClock f).pins = s.pins := rfl
@[simp] theorem State.onClock_loader (f : Clock → Clock) : (s.onClock f).loader = s.loader := rfl
@[simp] theorem State.onClock_cfg (f : Clock → Clock) : (s.onClock f).cfg = s.cfg := rfl
@[simp] theorem State.onClock_clock (f : Clock → Clock) : (s.onClock f).clock = f s.clock := rfl
@[simp] theorem State.onClock_custody (f : Clock → Clock) : (s.onClock f).custody = s.custody := rfl
@[simp] theorem State.onClock_handoff (f : Clock → Clock) : (s.onClock f).handoff = s.handoff := rfl
@[simp] theorem State.onClock_channels (f : Clock → Clock) : (s.onClock f).channels = s.channels := rfl
@[simp] theorem State.onClock_points (f : Clock → Clock) : (s.onClock f).points = s.points := rfl
@[simp] theorem State.onClock_scanner (f : Clock → Clock) : (s.onClock f).scanner = s.scanner := rfl
@[simp] theorem State.onClock_zones (f : Clock → Clock) : (s.onClock f).zones = s.zones := rfl
@[simp] theorem State.onClock_hazard (f : Clock → Clock) : (s.onClock f).hazard = s.hazard := rfl
@[simp] theorem State.onClock_chamber (f : Clock → Clock) : (s.onClock f).chamber = s.chamber := rfl
@[simp] theorem State.onClock_rotor (f : Clock → Clock) : (s.onClock f).rotor = s.rotor := rfl
@[simp] theorem State.onClock_feed (f : Clock → Clock) : (s.onClock f).feed = s.feed := rfl
@[simp] theorem State.onClock_peers (f : Clock → Clock) : (s.onClock f).peers = s.peers := rfl
@[simp] theorem State.onClock_link (f : Clock → Clock) : (s.onClock f).link = s.link := rfl
@[simp] theorem State.onClock_tally (f : Clock → Clock) : (s.onClock f).tally = s.tally := rfl
@[simp] theorem State.onClock_responder (f : Clock → Clock) : (s.onClock f).responder = s.responder := rfl

@[simp] theorem State.onCustody_pending (f : Custody → Custody) : (s.onCustody f).pending = s.pending := rfl
@[simp] theorem State.onCustody_pins (f : Custody → Custody) : (s.onCustody f).pins = s.pins := rfl
@[simp] theorem State.onCustody_loader (f : Custody → Custody) : (s.onCustody f).loader = s.loader := rfl
@[simp] theorem State.onCustody_cfg (f : Custody → Custody) : (s.onCustody f).cfg = s.cfg := rfl
@[simp] theorem State.onCustody_clock (f : Custody → Custody) : (s.onCustody f).clock = s.clock := rfl
@[simp] theorem State.onCustody_custody (f : Custody → Custody) : (s.onCustody f).custody = f s.custody := rfl
@[simp] theorem State.onCustody_handoff (f : Custody → Custody) : (s.onCustody f).handoff = s.handoff := rfl
@[simp] theorem State.onCustody_channels (f : Custody → Custody) : (s.onCustody f).channels = s.channels := rfl
@[simp] theorem State.onCustody_points (f : Custody → Custody) : (s.onCustody f).points = s.points := rfl
@[simp] theorem State.onCustody_scanner (f : Custody → Custody) : (s.onCustody f).scanner = s.scanner := rfl
@[simp] theorem State.onCustody_zones (f : Custody → Custody) : (s.onCustody f).zones = s.zones := rfl
@[simp] theorem State.onCustody_hazard (f : Custody → Custody) : (s.onCustody f).hazard = s.hazard := rfl
@[simp] theorem State.onCustody_chamber (f : Custody → Custody) : (s.onCustody f).chamber = s.chamber := rfl
@[simp] theorem State.onCustody_rotor (f : Custody → Custody) : (s.onCustody f).rotor = s.rotor := rfl
@[simp] theorem State.onCustody_feed (f : Custody → Custody) : (s.onCustody f).feed = s.feed := rfl
@[simp] theorem State.onCustody_peers (f : Custody → Custody) : (s.onCustody f).peers = s.peers := rfl
@[simp] theorem State.onCustody_link (f : Custody → Custody) : (s.onCustody f).link = s.link := rfl
@[simp] theorem State.onCustody_tally (f : Custody → Custody) : (s.onCustody f).tally = s.tally := rfl
@[simp] theorem State.onCustody_responder (f : Custody → Custody) : (s.onCustody f).responder = s.responder := rfl

@[simp] theorem State.onHandoff_pending (f : Handoff → Handoff) : (s.onHandoff f).pending = s.pending := rfl
@[simp] theorem State.onHandoff_pins (f : Handoff → Handoff) : (s.onHandoff f).pins = s.pins := rfl
@[simp] theorem State.onHandoff_loader (f : Handoff → Handoff) : (s.onHandoff f).loader = s.loader := rfl
@[simp] theorem State.onHandoff_cfg (f : Handoff → Handoff) : (s.onHandoff f).cfg = s.cfg := rfl
@[simp] theorem State.onHandoff_clock (f : Handoff → Handoff) : (s.onHandoff f).clock = s.clock := rfl
@[simp] theorem State.onHandoff_custody (f : Handoff → Handoff) : (s.onHandoff f).custody = s.custody := rfl
@[simp] theorem State.onHandoff_handoff (f : Handoff → Handoff) : (s.onHandoff f).handoff = f s.handoff := rfl
@[simp] theorem State.onHandoff_channels (f : Handoff → Handoff) : (s.onHandoff f).channels = s.channels := rfl
@[simp] theorem State.onHandoff_points (f : Handoff → Handoff) : (s.onHandoff f).points = s.points := rfl
@[simp] theorem State.onHandoff_scanner (f : Handoff → Handoff) : (s.onHandoff f).scanner = s.scanner := rfl
@[simp] theorem State.onHandoff_zones (f : Handoff → Handoff) : (s.onHandoff f).zones = s.zones := rfl
@[simp] theorem State.onHandoff_hazard (f : Handoff → Handoff) : (s.onHandoff f).hazard = s.hazard := rfl
@[simp] theorem State.onHandoff_chamber (f : Handoff → Handoff) : (s.onHandoff f).chamber = s.chamber := rfl
@[simp] theorem State.onHandoff_rotor (f : Handoff → Handoff) : (s.onHandoff f).rotor = s.rotor := rfl
@[simp] theorem State.onHandoff_feed (f : Handoff → Handoff) : (s.onHandoff f).feed = s.feed := rfl
@[simp] theorem State.onHandoff_peers (f : Handoff → Handoff) : (s.onHandoff f).peers = s.peers := rfl
@[simp] theorem State.onHandoff_link (f : Handoff → Handoff) : (s.onHandoff f).link = s.link := rfl
@[simp] theorem State.onHandoff_tally (f : Handoff → Handoff) : (s.onHandoff f).tally = s.tally := rfl
@[simp] theorem State.onHandoff_responder (f : Handoff → Handoff) : (s.onHandoff f).responder = s.responder := rfl

@[simp] theorem State.onChannels_pending (f : Vector Channel 4 → Vector Channel 4) : (s.onChannels f).pending = s.pending := rfl
@[simp] theorem State.onChannels_pins (f : Vector Channel 4 → Vector Channel 4) : (s.onChannels f).pins = s.pins := rfl
@[simp] theorem State.onChannels_loader (f : Vector Channel 4 → Vector Channel 4) : (s.onChannels f).loader = s.loader := rfl
@[simp] theorem State.onChannels_cfg (f : Vector Channel 4 → Vector Channel 4) : (s.onChannels f).cfg = s.cfg := rfl
@[simp] theorem State.onChannels_clock (f : Vector Channel 4 → Vector Channel 4) : (s.onChannels f).clock = s.clock := rfl
@[simp] theorem State.onChannels_custody (f : Vector Channel 4 → Vector Channel 4) : (s.onChannels f).custody = s.custody := rfl
@[simp] theorem State.onChannels_handoff (f : Vector Channel 4 → Vector Channel 4) : (s.onChannels f).handoff = s.handoff := rfl
@[simp] theorem State.onChannels_channels (f : Vector Channel 4 → Vector Channel 4) : (s.onChannels f).channels = f s.channels := rfl
@[simp] theorem State.onChannels_points (f : Vector Channel 4 → Vector Channel 4) : (s.onChannels f).points = s.points := rfl
@[simp] theorem State.onChannels_scanner (f : Vector Channel 4 → Vector Channel 4) : (s.onChannels f).scanner = s.scanner := rfl
@[simp] theorem State.onChannels_zones (f : Vector Channel 4 → Vector Channel 4) : (s.onChannels f).zones = s.zones := rfl
@[simp] theorem State.onChannels_hazard (f : Vector Channel 4 → Vector Channel 4) : (s.onChannels f).hazard = s.hazard := rfl
@[simp] theorem State.onChannels_chamber (f : Vector Channel 4 → Vector Channel 4) : (s.onChannels f).chamber = s.chamber := rfl
@[simp] theorem State.onChannels_rotor (f : Vector Channel 4 → Vector Channel 4) : (s.onChannels f).rotor = s.rotor := rfl
@[simp] theorem State.onChannels_feed (f : Vector Channel 4 → Vector Channel 4) : (s.onChannels f).feed = s.feed := rfl
@[simp] theorem State.onChannels_peers (f : Vector Channel 4 → Vector Channel 4) : (s.onChannels f).peers = s.peers := rfl
@[simp] theorem State.onChannels_link (f : Vector Channel 4 → Vector Channel 4) : (s.onChannels f).link = s.link := rfl
@[simp] theorem State.onChannels_tally (f : Vector Channel 4 → Vector Channel 4) : (s.onChannels f).tally = s.tally := rfl
@[simp] theorem State.onChannels_responder (f : Vector Channel 4 → Vector Channel 4) : (s.onChannels f).responder = s.responder := rfl

@[simp] theorem State.onPoints_pending (f : Vector Point 12 → Vector Point 12) : (s.onPoints f).pending = s.pending := rfl
@[simp] theorem State.onPoints_pins (f : Vector Point 12 → Vector Point 12) : (s.onPoints f).pins = s.pins := rfl
@[simp] theorem State.onPoints_loader (f : Vector Point 12 → Vector Point 12) : (s.onPoints f).loader = s.loader := rfl
@[simp] theorem State.onPoints_cfg (f : Vector Point 12 → Vector Point 12) : (s.onPoints f).cfg = s.cfg := rfl
@[simp] theorem State.onPoints_clock (f : Vector Point 12 → Vector Point 12) : (s.onPoints f).clock = s.clock := rfl
@[simp] theorem State.onPoints_custody (f : Vector Point 12 → Vector Point 12) : (s.onPoints f).custody = s.custody := rfl
@[simp] theorem State.onPoints_handoff (f : Vector Point 12 → Vector Point 12) : (s.onPoints f).handoff = s.handoff := rfl
@[simp] theorem State.onPoints_channels (f : Vector Point 12 → Vector Point 12) : (s.onPoints f).channels = s.channels := rfl
@[simp] theorem State.onPoints_points (f : Vector Point 12 → Vector Point 12) : (s.onPoints f).points = f s.points := rfl
@[simp] theorem State.onPoints_scanner (f : Vector Point 12 → Vector Point 12) : (s.onPoints f).scanner = s.scanner := rfl
@[simp] theorem State.onPoints_zones (f : Vector Point 12 → Vector Point 12) : (s.onPoints f).zones = s.zones := rfl
@[simp] theorem State.onPoints_hazard (f : Vector Point 12 → Vector Point 12) : (s.onPoints f).hazard = s.hazard := rfl
@[simp] theorem State.onPoints_chamber (f : Vector Point 12 → Vector Point 12) : (s.onPoints f).chamber = s.chamber := rfl
@[simp] theorem State.onPoints_rotor (f : Vector Point 12 → Vector Point 12) : (s.onPoints f).rotor = s.rotor := rfl
@[simp] theorem State.onPoints_feed (f : Vector Point 12 → Vector Point 12) : (s.onPoints f).feed = s.feed := rfl
@[simp] theorem State.onPoints_peers (f : Vector Point 12 → Vector Point 12) : (s.onPoints f).peers = s.peers := rfl
@[simp] theorem State.onPoints_link (f : Vector Point 12 → Vector Point 12) : (s.onPoints f).link = s.link := rfl
@[simp] theorem State.onPoints_tally (f : Vector Point 12 → Vector Point 12) : (s.onPoints f).tally = s.tally := rfl
@[simp] theorem State.onPoints_responder (f : Vector Point 12 → Vector Point 12) : (s.onPoints f).responder = s.responder := rfl

@[simp] theorem State.onScanner_pending (f : Scanner → Scanner) : (s.onScanner f).pending = s.pending := rfl
@[simp] theorem State.onScanner_pins (f : Scanner → Scanner) : (s.onScanner f).pins = s.pins := rfl
@[simp] theorem State.onScanner_loader (f : Scanner → Scanner) : (s.onScanner f).loader = s.loader := rfl
@[simp] theorem State.onScanner_cfg (f : Scanner → Scanner) : (s.onScanner f).cfg = s.cfg := rfl
@[simp] theorem State.onScanner_clock (f : Scanner → Scanner) : (s.onScanner f).clock = s.clock := rfl
@[simp] theorem State.onScanner_custody (f : Scanner → Scanner) : (s.onScanner f).custody = s.custody := rfl
@[simp] theorem State.onScanner_handoff (f : Scanner → Scanner) : (s.onScanner f).handoff = s.handoff := rfl
@[simp] theorem State.onScanner_channels (f : Scanner → Scanner) : (s.onScanner f).channels = s.channels := rfl
@[simp] theorem State.onScanner_points (f : Scanner → Scanner) : (s.onScanner f).points = s.points := rfl
@[simp] theorem State.onScanner_scanner (f : Scanner → Scanner) : (s.onScanner f).scanner = f s.scanner := rfl
@[simp] theorem State.onScanner_zones (f : Scanner → Scanner) : (s.onScanner f).zones = s.zones := rfl
@[simp] theorem State.onScanner_hazard (f : Scanner → Scanner) : (s.onScanner f).hazard = s.hazard := rfl
@[simp] theorem State.onScanner_chamber (f : Scanner → Scanner) : (s.onScanner f).chamber = s.chamber := rfl
@[simp] theorem State.onScanner_rotor (f : Scanner → Scanner) : (s.onScanner f).rotor = s.rotor := rfl
@[simp] theorem State.onScanner_feed (f : Scanner → Scanner) : (s.onScanner f).feed = s.feed := rfl
@[simp] theorem State.onScanner_peers (f : Scanner → Scanner) : (s.onScanner f).peers = s.peers := rfl
@[simp] theorem State.onScanner_link (f : Scanner → Scanner) : (s.onScanner f).link = s.link := rfl
@[simp] theorem State.onScanner_tally (f : Scanner → Scanner) : (s.onScanner f).tally = s.tally := rfl
@[simp] theorem State.onScanner_responder (f : Scanner → Scanner) : (s.onScanner f).responder = s.responder := rfl

@[simp] theorem State.onZones_pending (f : ZoneLogic → ZoneLogic) : (s.onZones f).pending = s.pending := rfl
@[simp] theorem State.onZones_pins (f : ZoneLogic → ZoneLogic) : (s.onZones f).pins = s.pins := rfl
@[simp] theorem State.onZones_loader (f : ZoneLogic → ZoneLogic) : (s.onZones f).loader = s.loader := rfl
@[simp] theorem State.onZones_cfg (f : ZoneLogic → ZoneLogic) : (s.onZones f).cfg = s.cfg := rfl
@[simp] theorem State.onZones_clock (f : ZoneLogic → ZoneLogic) : (s.onZones f).clock = s.clock := rfl
@[simp] theorem State.onZones_custody (f : ZoneLogic → ZoneLogic) : (s.onZones f).custody = s.custody := rfl
@[simp] theorem State.onZones_handoff (f : ZoneLogic → ZoneLogic) : (s.onZones f).handoff = s.handoff := rfl
@[simp] theorem State.onZones_channels (f : ZoneLogic → ZoneLogic) : (s.onZones f).channels = s.channels := rfl
@[simp] theorem State.onZones_points (f : ZoneLogic → ZoneLogic) : (s.onZones f).points = s.points := rfl
@[simp] theorem State.onZones_scanner (f : ZoneLogic → ZoneLogic) : (s.onZones f).scanner = s.scanner := rfl
@[simp] theorem State.onZones_zones (f : ZoneLogic → ZoneLogic) : (s.onZones f).zones = f s.zones := rfl
@[simp] theorem State.onZones_hazard (f : ZoneLogic → ZoneLogic) : (s.onZones f).hazard = s.hazard := rfl
@[simp] theorem State.onZones_chamber (f : ZoneLogic → ZoneLogic) : (s.onZones f).chamber = s.chamber := rfl
@[simp] theorem State.onZones_rotor (f : ZoneLogic → ZoneLogic) : (s.onZones f).rotor = s.rotor := rfl
@[simp] theorem State.onZones_feed (f : ZoneLogic → ZoneLogic) : (s.onZones f).feed = s.feed := rfl
@[simp] theorem State.onZones_peers (f : ZoneLogic → ZoneLogic) : (s.onZones f).peers = s.peers := rfl
@[simp] theorem State.onZones_link (f : ZoneLogic → ZoneLogic) : (s.onZones f).link = s.link := rfl
@[simp] theorem State.onZones_tally (f : ZoneLogic → ZoneLogic) : (s.onZones f).tally = s.tally := rfl
@[simp] theorem State.onZones_responder (f : ZoneLogic → ZoneLogic) : (s.onZones f).responder = s.responder := rfl

@[simp] theorem State.onHazard_pending (f : Evaluator → Evaluator) : (s.onHazard f).pending = s.pending := rfl
@[simp] theorem State.onHazard_pins (f : Evaluator → Evaluator) : (s.onHazard f).pins = s.pins := rfl
@[simp] theorem State.onHazard_loader (f : Evaluator → Evaluator) : (s.onHazard f).loader = s.loader := rfl
@[simp] theorem State.onHazard_cfg (f : Evaluator → Evaluator) : (s.onHazard f).cfg = s.cfg := rfl
@[simp] theorem State.onHazard_clock (f : Evaluator → Evaluator) : (s.onHazard f).clock = s.clock := rfl
@[simp] theorem State.onHazard_custody (f : Evaluator → Evaluator) : (s.onHazard f).custody = s.custody := rfl
@[simp] theorem State.onHazard_handoff (f : Evaluator → Evaluator) : (s.onHazard f).handoff = s.handoff := rfl
@[simp] theorem State.onHazard_channels (f : Evaluator → Evaluator) : (s.onHazard f).channels = s.channels := rfl
@[simp] theorem State.onHazard_points (f : Evaluator → Evaluator) : (s.onHazard f).points = s.points := rfl
@[simp] theorem State.onHazard_scanner (f : Evaluator → Evaluator) : (s.onHazard f).scanner = s.scanner := rfl
@[simp] theorem State.onHazard_zones (f : Evaluator → Evaluator) : (s.onHazard f).zones = s.zones := rfl
@[simp] theorem State.onHazard_hazard (f : Evaluator → Evaluator) : (s.onHazard f).hazard = f s.hazard := rfl
@[simp] theorem State.onHazard_chamber (f : Evaluator → Evaluator) : (s.onHazard f).chamber = s.chamber := rfl
@[simp] theorem State.onHazard_rotor (f : Evaluator → Evaluator) : (s.onHazard f).rotor = s.rotor := rfl
@[simp] theorem State.onHazard_feed (f : Evaluator → Evaluator) : (s.onHazard f).feed = s.feed := rfl
@[simp] theorem State.onHazard_peers (f : Evaluator → Evaluator) : (s.onHazard f).peers = s.peers := rfl
@[simp] theorem State.onHazard_link (f : Evaluator → Evaluator) : (s.onHazard f).link = s.link := rfl
@[simp] theorem State.onHazard_tally (f : Evaluator → Evaluator) : (s.onHazard f).tally = s.tally := rfl
@[simp] theorem State.onHazard_responder (f : Evaluator → Evaluator) : (s.onHazard f).responder = s.responder := rfl

@[simp] theorem State.onChamber_pending (f : Chamber → Chamber) : (s.onChamber f).pending = s.pending := rfl
@[simp] theorem State.onChamber_pins (f : Chamber → Chamber) : (s.onChamber f).pins = s.pins := rfl
@[simp] theorem State.onChamber_loader (f : Chamber → Chamber) : (s.onChamber f).loader = s.loader := rfl
@[simp] theorem State.onChamber_cfg (f : Chamber → Chamber) : (s.onChamber f).cfg = s.cfg := rfl
@[simp] theorem State.onChamber_clock (f : Chamber → Chamber) : (s.onChamber f).clock = s.clock := rfl
@[simp] theorem State.onChamber_custody (f : Chamber → Chamber) : (s.onChamber f).custody = s.custody := rfl
@[simp] theorem State.onChamber_handoff (f : Chamber → Chamber) : (s.onChamber f).handoff = s.handoff := rfl
@[simp] theorem State.onChamber_channels (f : Chamber → Chamber) : (s.onChamber f).channels = s.channels := rfl
@[simp] theorem State.onChamber_points (f : Chamber → Chamber) : (s.onChamber f).points = s.points := rfl
@[simp] theorem State.onChamber_scanner (f : Chamber → Chamber) : (s.onChamber f).scanner = s.scanner := rfl
@[simp] theorem State.onChamber_zones (f : Chamber → Chamber) : (s.onChamber f).zones = s.zones := rfl
@[simp] theorem State.onChamber_hazard (f : Chamber → Chamber) : (s.onChamber f).hazard = s.hazard := rfl
@[simp] theorem State.onChamber_chamber (f : Chamber → Chamber) : (s.onChamber f).chamber = f s.chamber := rfl
@[simp] theorem State.onChamber_rotor (f : Chamber → Chamber) : (s.onChamber f).rotor = s.rotor := rfl
@[simp] theorem State.onChamber_feed (f : Chamber → Chamber) : (s.onChamber f).feed = s.feed := rfl
@[simp] theorem State.onChamber_peers (f : Chamber → Chamber) : (s.onChamber f).peers = s.peers := rfl
@[simp] theorem State.onChamber_link (f : Chamber → Chamber) : (s.onChamber f).link = s.link := rfl
@[simp] theorem State.onChamber_tally (f : Chamber → Chamber) : (s.onChamber f).tally = s.tally := rfl
@[simp] theorem State.onChamber_responder (f : Chamber → Chamber) : (s.onChamber f).responder = s.responder := rfl

@[simp] theorem State.onRotor_pending (f : Rotor → Rotor) : (s.onRotor f).pending = s.pending := rfl
@[simp] theorem State.onRotor_pins (f : Rotor → Rotor) : (s.onRotor f).pins = s.pins := rfl
@[simp] theorem State.onRotor_loader (f : Rotor → Rotor) : (s.onRotor f).loader = s.loader := rfl
@[simp] theorem State.onRotor_cfg (f : Rotor → Rotor) : (s.onRotor f).cfg = s.cfg := rfl
@[simp] theorem State.onRotor_clock (f : Rotor → Rotor) : (s.onRotor f).clock = s.clock := rfl
@[simp] theorem State.onRotor_custody (f : Rotor → Rotor) : (s.onRotor f).custody = s.custody := rfl
@[simp] theorem State.onRotor_handoff (f : Rotor → Rotor) : (s.onRotor f).handoff = s.handoff := rfl
@[simp] theorem State.onRotor_channels (f : Rotor → Rotor) : (s.onRotor f).channels = s.channels := rfl
@[simp] theorem State.onRotor_points (f : Rotor → Rotor) : (s.onRotor f).points = s.points := rfl
@[simp] theorem State.onRotor_scanner (f : Rotor → Rotor) : (s.onRotor f).scanner = s.scanner := rfl
@[simp] theorem State.onRotor_zones (f : Rotor → Rotor) : (s.onRotor f).zones = s.zones := rfl
@[simp] theorem State.onRotor_hazard (f : Rotor → Rotor) : (s.onRotor f).hazard = s.hazard := rfl
@[simp] theorem State.onRotor_chamber (f : Rotor → Rotor) : (s.onRotor f).chamber = s.chamber := rfl
@[simp] theorem State.onRotor_rotor (f : Rotor → Rotor) : (s.onRotor f).rotor = f s.rotor := rfl
@[simp] theorem State.onRotor_feed (f : Rotor → Rotor) : (s.onRotor f).feed = s.feed := rfl
@[simp] theorem State.onRotor_peers (f : Rotor → Rotor) : (s.onRotor f).peers = s.peers := rfl
@[simp] theorem State.onRotor_link (f : Rotor → Rotor) : (s.onRotor f).link = s.link := rfl
@[simp] theorem State.onRotor_tally (f : Rotor → Rotor) : (s.onRotor f).tally = s.tally := rfl
@[simp] theorem State.onRotor_responder (f : Rotor → Rotor) : (s.onRotor f).responder = s.responder := rfl

@[simp] theorem State.onFeed_pending (f : Feed → Feed) : (s.onFeed f).pending = s.pending := rfl
@[simp] theorem State.onFeed_pins (f : Feed → Feed) : (s.onFeed f).pins = s.pins := rfl
@[simp] theorem State.onFeed_loader (f : Feed → Feed) : (s.onFeed f).loader = s.loader := rfl
@[simp] theorem State.onFeed_cfg (f : Feed → Feed) : (s.onFeed f).cfg = s.cfg := rfl
@[simp] theorem State.onFeed_clock (f : Feed → Feed) : (s.onFeed f).clock = s.clock := rfl
@[simp] theorem State.onFeed_custody (f : Feed → Feed) : (s.onFeed f).custody = s.custody := rfl
@[simp] theorem State.onFeed_handoff (f : Feed → Feed) : (s.onFeed f).handoff = s.handoff := rfl
@[simp] theorem State.onFeed_channels (f : Feed → Feed) : (s.onFeed f).channels = s.channels := rfl
@[simp] theorem State.onFeed_points (f : Feed → Feed) : (s.onFeed f).points = s.points := rfl
@[simp] theorem State.onFeed_scanner (f : Feed → Feed) : (s.onFeed f).scanner = s.scanner := rfl
@[simp] theorem State.onFeed_zones (f : Feed → Feed) : (s.onFeed f).zones = s.zones := rfl
@[simp] theorem State.onFeed_hazard (f : Feed → Feed) : (s.onFeed f).hazard = s.hazard := rfl
@[simp] theorem State.onFeed_chamber (f : Feed → Feed) : (s.onFeed f).chamber = s.chamber := rfl
@[simp] theorem State.onFeed_rotor (f : Feed → Feed) : (s.onFeed f).rotor = s.rotor := rfl
@[simp] theorem State.onFeed_feed (f : Feed → Feed) : (s.onFeed f).feed = f s.feed := rfl
@[simp] theorem State.onFeed_peers (f : Feed → Feed) : (s.onFeed f).peers = s.peers := rfl
@[simp] theorem State.onFeed_link (f : Feed → Feed) : (s.onFeed f).link = s.link := rfl
@[simp] theorem State.onFeed_tally (f : Feed → Feed) : (s.onFeed f).tally = s.tally := rfl
@[simp] theorem State.onFeed_responder (f : Feed → Feed) : (s.onFeed f).responder = s.responder := rfl

@[simp] theorem State.onPeers_pending (f : PeerView → PeerView) : (s.onPeers f).pending = s.pending := rfl
@[simp] theorem State.onPeers_pins (f : PeerView → PeerView) : (s.onPeers f).pins = s.pins := rfl
@[simp] theorem State.onPeers_loader (f : PeerView → PeerView) : (s.onPeers f).loader = s.loader := rfl
@[simp] theorem State.onPeers_cfg (f : PeerView → PeerView) : (s.onPeers f).cfg = s.cfg := rfl
@[simp] theorem State.onPeers_clock (f : PeerView → PeerView) : (s.onPeers f).clock = s.clock := rfl
@[simp] theorem State.onPeers_custody (f : PeerView → PeerView) : (s.onPeers f).custody = s.custody := rfl
@[simp] theorem State.onPeers_handoff (f : PeerView → PeerView) : (s.onPeers f).handoff = s.handoff := rfl
@[simp] theorem State.onPeers_channels (f : PeerView → PeerView) : (s.onPeers f).channels = s.channels := rfl
@[simp] theorem State.onPeers_points (f : PeerView → PeerView) : (s.onPeers f).points = s.points := rfl
@[simp] theorem State.onPeers_scanner (f : PeerView → PeerView) : (s.onPeers f).scanner = s.scanner := rfl
@[simp] theorem State.onPeers_zones (f : PeerView → PeerView) : (s.onPeers f).zones = s.zones := rfl
@[simp] theorem State.onPeers_hazard (f : PeerView → PeerView) : (s.onPeers f).hazard = s.hazard := rfl
@[simp] theorem State.onPeers_chamber (f : PeerView → PeerView) : (s.onPeers f).chamber = s.chamber := rfl
@[simp] theorem State.onPeers_rotor (f : PeerView → PeerView) : (s.onPeers f).rotor = s.rotor := rfl
@[simp] theorem State.onPeers_feed (f : PeerView → PeerView) : (s.onPeers f).feed = s.feed := rfl
@[simp] theorem State.onPeers_peers (f : PeerView → PeerView) : (s.onPeers f).peers = f s.peers := rfl
@[simp] theorem State.onPeers_link (f : PeerView → PeerView) : (s.onPeers f).link = s.link := rfl
@[simp] theorem State.onPeers_tally (f : PeerView → PeerView) : (s.onPeers f).tally = s.tally := rfl
@[simp] theorem State.onPeers_responder (f : PeerView → PeerView) : (s.onPeers f).responder = s.responder := rfl

@[simp] theorem State.onLink_pending (f : Link → Link) : (s.onLink f).pending = s.pending := rfl
@[simp] theorem State.onLink_pins (f : Link → Link) : (s.onLink f).pins = s.pins := rfl
@[simp] theorem State.onLink_loader (f : Link → Link) : (s.onLink f).loader = s.loader := rfl
@[simp] theorem State.onLink_cfg (f : Link → Link) : (s.onLink f).cfg = s.cfg := rfl
@[simp] theorem State.onLink_clock (f : Link → Link) : (s.onLink f).clock = s.clock := rfl
@[simp] theorem State.onLink_custody (f : Link → Link) : (s.onLink f).custody = s.custody := rfl
@[simp] theorem State.onLink_handoff (f : Link → Link) : (s.onLink f).handoff = s.handoff := rfl
@[simp] theorem State.onLink_channels (f : Link → Link) : (s.onLink f).channels = s.channels := rfl
@[simp] theorem State.onLink_points (f : Link → Link) : (s.onLink f).points = s.points := rfl
@[simp] theorem State.onLink_scanner (f : Link → Link) : (s.onLink f).scanner = s.scanner := rfl
@[simp] theorem State.onLink_zones (f : Link → Link) : (s.onLink f).zones = s.zones := rfl
@[simp] theorem State.onLink_hazard (f : Link → Link) : (s.onLink f).hazard = s.hazard := rfl
@[simp] theorem State.onLink_chamber (f : Link → Link) : (s.onLink f).chamber = s.chamber := rfl
@[simp] theorem State.onLink_rotor (f : Link → Link) : (s.onLink f).rotor = s.rotor := rfl
@[simp] theorem State.onLink_feed (f : Link → Link) : (s.onLink f).feed = s.feed := rfl
@[simp] theorem State.onLink_peers (f : Link → Link) : (s.onLink f).peers = s.peers := rfl
@[simp] theorem State.onLink_link (f : Link → Link) : (s.onLink f).link = f s.link := rfl
@[simp] theorem State.onLink_tally (f : Link → Link) : (s.onLink f).tally = s.tally := rfl
@[simp] theorem State.onLink_responder (f : Link → Link) : (s.onLink f).responder = s.responder := rfl

@[simp] theorem State.onTally_pending (f : Tally → Tally) : (s.onTally f).pending = s.pending := rfl
@[simp] theorem State.onTally_pins (f : Tally → Tally) : (s.onTally f).pins = s.pins := rfl
@[simp] theorem State.onTally_loader (f : Tally → Tally) : (s.onTally f).loader = s.loader := rfl
@[simp] theorem State.onTally_cfg (f : Tally → Tally) : (s.onTally f).cfg = s.cfg := rfl
@[simp] theorem State.onTally_clock (f : Tally → Tally) : (s.onTally f).clock = s.clock := rfl
@[simp] theorem State.onTally_custody (f : Tally → Tally) : (s.onTally f).custody = s.custody := rfl
@[simp] theorem State.onTally_handoff (f : Tally → Tally) : (s.onTally f).handoff = s.handoff := rfl
@[simp] theorem State.onTally_channels (f : Tally → Tally) : (s.onTally f).channels = s.channels := rfl
@[simp] theorem State.onTally_points (f : Tally → Tally) : (s.onTally f).points = s.points := rfl
@[simp] theorem State.onTally_scanner (f : Tally → Tally) : (s.onTally f).scanner = s.scanner := rfl
@[simp] theorem State.onTally_zones (f : Tally → Tally) : (s.onTally f).zones = s.zones := rfl
@[simp] theorem State.onTally_hazard (f : Tally → Tally) : (s.onTally f).hazard = s.hazard := rfl
@[simp] theorem State.onTally_chamber (f : Tally → Tally) : (s.onTally f).chamber = s.chamber := rfl
@[simp] theorem State.onTally_rotor (f : Tally → Tally) : (s.onTally f).rotor = s.rotor := rfl
@[simp] theorem State.onTally_feed (f : Tally → Tally) : (s.onTally f).feed = s.feed := rfl
@[simp] theorem State.onTally_peers (f : Tally → Tally) : (s.onTally f).peers = s.peers := rfl
@[simp] theorem State.onTally_link (f : Tally → Tally) : (s.onTally f).link = s.link := rfl
@[simp] theorem State.onTally_tally (f : Tally → Tally) : (s.onTally f).tally = f s.tally := rfl
@[simp] theorem State.onTally_responder (f : Tally → Tally) : (s.onTally f).responder = s.responder := rfl

@[simp] theorem State.onResponder_pending (f : Responder → Responder) : (s.onResponder f).pending = s.pending := rfl
@[simp] theorem State.onResponder_pins (f : Responder → Responder) : (s.onResponder f).pins = s.pins := rfl
@[simp] theorem State.onResponder_loader (f : Responder → Responder) : (s.onResponder f).loader = s.loader := rfl
@[simp] theorem State.onResponder_cfg (f : Responder → Responder) : (s.onResponder f).cfg = s.cfg := rfl
@[simp] theorem State.onResponder_clock (f : Responder → Responder) : (s.onResponder f).clock = s.clock := rfl
@[simp] theorem State.onResponder_custody (f : Responder → Responder) : (s.onResponder f).custody = s.custody := rfl
@[simp] theorem State.onResponder_handoff (f : Responder → Responder) : (s.onResponder f).handoff = s.handoff := rfl
@[simp] theorem State.onResponder_channels (f : Responder → Responder) : (s.onResponder f).channels = s.channels := rfl
@[simp] theorem State.onResponder_points (f : Responder → Responder) : (s.onResponder f).points = s.points := rfl
@[simp] theorem State.onResponder_scanner (f : Responder → Responder) : (s.onResponder f).scanner = s.scanner := rfl
@[simp] theorem State.onResponder_zones (f : Responder → Responder) : (s.onResponder f).zones = s.zones := rfl
@[simp] theorem State.onResponder_hazard (f : Responder → Responder) : (s.onResponder f).hazard = s.hazard := rfl
@[simp] theorem State.onResponder_chamber (f : Responder → Responder) : (s.onResponder f).chamber = s.chamber := rfl
@[simp] theorem State.onResponder_rotor (f : Responder → Responder) : (s.onResponder f).rotor = s.rotor := rfl
@[simp] theorem State.onResponder_feed (f : Responder → Responder) : (s.onResponder f).feed = s.feed := rfl
@[simp] theorem State.onResponder_peers (f : Responder → Responder) : (s.onResponder f).peers = s.peers := rfl
@[simp] theorem State.onResponder_link (f : Responder → Responder) : (s.onResponder f).link = s.link := rfl
@[simp] theorem State.onResponder_tally (f : Responder → Responder) : (s.onResponder f).tally = s.tally := rfl
@[simp] theorem State.onResponder_responder (f : Responder → Responder) : (s.onResponder f).responder = f s.responder := rfl

end Sys2Proof.Machine
end

