-- ==== Sys2Proof/Laws/Blocks.lean ====
section
/-! SUPPORT. Which parts of the state each shared operation can touch: one lemma per operation, and how they compose. -/
namespace Sys2Proof.Machine

/-- Every part is the same in a state and itself. -/
@[simp] theorem Block.same_refl (s : State) (b : Block) : Block.Same s s b := by cases b <;> rfl

/-- A part that stands through two changes stands through both. -/
theorem Block.same_trans {s t u : State} {b : Block} (h : Block.Same s t b) (k : Block.Same t u b) :
    Block.Same s u b := by
  cases b <;> simp only [Block.Same] at * <;> rw [k, h]

theorem OnlyTouches.refl (bs : List Block) (s : State) : OnlyTouches bs s s := fun b _ => Block.same_refl s b

theorem OnlyTouches.trans {bs : List Block} {s t u : State} (h : OnlyTouches bs s t) (k : OnlyTouches bs t u) :
    OnlyTouches bs s u := fun b hb => Block.same_trans (h b hb) (k b hb)

/-- A change within some parts is a change within more. -/
theorem OnlyTouches.mono {bs cs : List Block} {s t : State} (h : OnlyTouches bs s t) (hc : ∀ b ∈ bs, b ∈ cs) :
    OnlyTouches cs s t := fun b hb => h b fun hm => hb (hc b hm)

/-! ## Hand-ons -/

/-- R145: what closing FEED with a change can do: nothing, or the return of the FEEDING entry; the hand-ons stay. -/
theorem Fx.closing_cases (s : State) (r : Fx) :
    r.closing s = r ∨ ∃ e, feedingEntry r.1 = some e ∧ mayFeed s ∧ ¬ mayFeed r.1
      ∧ r.closing s = (returnFeed e r.1, r.2) := by
  unfold Fx.closing
  split
  · next e he =>
    split
    · next h => exact .inr ⟨e, he, h.1, h.2, rfl⟩
    · exact .inl rfl
  · exact .inl rfl

@[simp] theorem Fx.closing_notices (s : State) (r : Fx) : (r.closing s).2 = r.2 := by
  rcases Fx.closing_cases s r with h | ⟨e, -, -, -, h⟩ <;> rw [h]

/-- A relation that every return of a FEEDING entry keeps stands through the closing of FEED. -/
theorem Fx.closing_keeps {R : State → Prop} (h : ∀ e t, R t → R (returnFeed e t)) (s : State) (r : Fx) (hr : R r.1) :
    R (r.closing s).1 := by
  rcases Fx.closing_cases s r with e | ⟨e, -, -, -, k⟩
  · rwa [e]
  · rw [k]; exact h e r.1 hr

/-- A change and its hand-ons: from `s`, the relation `R` leads to the state and every notice is of the class `C`. -/
def Fx.Within (R : State → State → Prop) (C : Notice → Prop) (s : State) (r : Fx) : Prop :=
  R s r.1 ∧ ∀ n ∈ r.2, C n

theorem Fx.Within.quiet {R : State → State → Prop} {C : Notice → Prop} {s t : State} (h : R s t) :
    Fx.Within R C s (quiet t) := ⟨h, by simp [Machine.quiet]⟩

theorem Fx.Within.tell {R : State → State → Prop} {C : Notice → Prop} {s : State} {r : Fx} {ns : List Notice}
    (h : Fx.Within R C s r) (hn : ∀ n ∈ ns, C n) : Fx.Within R C s (r.tell ns) := by
  refine ⟨h.1, fun n hm => ?_⟩
  rcases List.mem_append.1 hm with hm | hm
  · exact h.2 n hm
  · exact hn n hm

theorem Fx.Within.after {R : State → State → Prop} {C : Notice → Prop} {s : State} {r : Fx} {f : State → State}
    (trans : ∀ {a b c}, R a b → R b c → R a c) (h : Fx.Within R C s r) (hf : R r.1 (f r.1)) :
    Fx.Within R C s (r.after f) := ⟨trans h.1 hf, h.2⟩

theorem Fx.Within.andThen {R : State → State → Prop} {C : Notice → Prop} {s : State} {r : Fx} {f : State → Fx}
    (trans : ∀ {a b c}, R a b → R b c → R a c) (h : Fx.Within R C s r) (hf : Fx.Within R C r.1 (f r.1)) :
    Fx.Within R C s (r.andThen f) := by
  refine ⟨trans h.1 hf.1, fun n hm => ?_⟩
  rcases List.mem_append.1 hm with hm | hm
  · exact h.2 n hm
  · exact hf.2 n hm

/-- An operation that keeps to `R` and `C` at every state does so for a list of elements. -/
theorem Fx.Within.forEach {α : Type} {R : State → State → Prop} {C : Notice → Prop} {f : α → State → Fx}
    (refl : ∀ a, R a a) (trans : ∀ {a b c}, R a b → R b c → R a c) (hf : ∀ x s, Fx.Within R C s (f x s)) :
    ∀ (xs : List α) (s : State), Fx.Within R C s (forEach f xs s)
  | [], s => Fx.Within.quiet (refl s)
  | x :: xs, s => Fx.Within.andThen trans (hf x s) (Fx.Within.forEach refl trans hf xs _)

/-- What every notice of a class keeps, and hands on within the class, the whole cascade keeps. -/
theorem settle_keeps {P : State → Prop} {C : Notice → Prop}
    (h : ∀ n s, C n → P s → P (take n s).1 ∧ ∀ m ∈ (take n s).2, C m) :
    ∀ fuel now late s, (∀ n ∈ now, C n) → (∀ n ∈ late, C n) → P s → P (settle fuel now late s)
  | 0, _, _, _, _, _, hp => hp
  | _ + 1, [], [], _, _, _, hp => hp
  | fuel + 1, n :: now, late, s, hn, hl, hp => by
    obtain ⟨hp', hm⟩ := h n s (hn n (by simp)) hp
    refine settle_keeps h fuel _ _ _ ?_ ?_ hp'
    · intro m hm'
      rcases List.mem_append.1 hm' with hm' | hm'
      · exact hm m (List.mem_filter.1 hm').1
      · exact hn m (by simp [hm'])
    · intro m hm'
      rcases List.mem_append.1 hm' with hm' | hm'
      · exact hl m hm'
      · exact hm m (List.mem_filter.1 hm').1
  | fuel + 1, [], n :: late, s, _, hl, hp => by
    obtain ⟨hp', hm⟩ := h n s (hl n (by simp)) hp
    refine settle_keeps h fuel _ _ _ ?_ ?_ hp'
    · intro m hm'
      exact hm m (List.mem_filter.1 hm').1
    · intro m hm'
      rcases List.mem_append.1 hm' with hm' | hm'
      · exact hl m (by simp [hm'])
      · exact hm m (List.mem_filter.1 hm').1

/-- What every notice of a class keeps, the end of a command keeps. -/
theorem finish_keeps {P : State → Prop} {C : Notice → Prop} {r : Fx}
    (h : ∀ n s, C n → P s → P (take n s).1 ∧ ∀ m ∈ (take n s).2, C m) (hr : ∀ n ∈ r.2, C n) (hp : P r.1) :
    P (finish r) :=
  settle_keeps h _ _ _ _ (fun n hn => hr n (List.mem_filter.1 hn).1) (fun n hn => hr n (List.mem_filter.1 hn).1) hp

/-- What every notice keeps, the end of a command keeps. -/
theorem finish_keeps_all {P : State → Prop} {r : Fx} (h : ∀ n s, P s → P (take n s).1) (hp : P r.1) :
    P (finish r) :=
  finish_keeps (C := fun _ => True) (fun n s _ k => ⟨h n s k, fun _ _ => trivial⟩) (fun _ _ => trivial) hp

end Sys2Proof.Machine
end

