-- ==== Sys2Proof/Laws/HandOn.lean ====
section
/-! SUPPORT. What the hand-ons of a command leave alone, whatever is going on: every notice keeps `HandOnFrame`, and so
does the end of every command. -/
namespace Sys2Proof.Machine

theorem HandOnFrame.refl (s : State) : HandOnFrame s s where
  outside := OnlyTouches.refl _ s
  own := rfl
  loader h := ⟨rfl, h⟩
  packs := rfl
  nextSerial := rfl
  orphanSeq := rfl
  counts := rfl
  expect := rfl
  transit := rfl
  exit := ⟨rfl, rfl⟩
  finished _ _ := rfl
  connected _ _ h := ⟨h, rfl⟩
  points _ := rfl
  rx := rfl
  joined := ⟨rfl, .inl rfl⟩
  report := rfl
  statusTimer := rfl
  custodyQueue := List.prefix_refl _
  restores := rfl
  stopHold := rfl
  latched _ h := h
  lineStop h := h
  linkCounts := rfl
  rotor := ⟨rfl, rfl⟩
  timeouts := rfl

theorem HandOnFrame.pins {s t : State} (h : HandOnFrame s t) : t.pins = s.pins := h.outside .pins (by decide)

theorem HandOnFrame.cfg {s t : State} (h : HandOnFrame s t) : t.cfg = s.cfg := h.outside .cfg (by decide)

theorem HandOnFrame.trans {s t u : State} (h : HandOnFrame s t) (k : HandOnFrame t u) : HandOnFrame s u where
  outside := h.outside.trans k.outside
  own := k.own.trans h.own
  loader n := by
    obtain ⟨e, n'⟩ := h.loader n
    obtain ⟨e', n''⟩ := k.loader n'
    exact ⟨e'.trans e, n''⟩
  packs := k.packs.trans h.packs
  nextSerial := k.nextSerial.trans h.nextSerial
  orphanSeq := k.orphanSeq.trans h.orphanSeq
  counts := by rw [← h.counts, ← k.counts]
  expect := k.expect.trans h.expect
  transit := k.transit.trans h.transit
  exit := ⟨k.exit.1.trans h.exit.1, k.exit.2.trans h.exit.2⟩
  finished c hc := by
    have e := h.finished c hc
    rw [k.finished c (by rw [e, hc]), e]
  connected c hp hc := by
    obtain ⟨n, e⟩ := h.connected c hp hc
    obtain ⟨n', e'⟩ := k.connected c (by rw [h.pins]; exact hp) n
    exact ⟨n', e'.trans e⟩
  points p := (k.points p).trans (h.points p)
  rx := k.rx.trans h.rx
  joined := ⟨k.joined.1.trans h.joined.1, by
    rcases k.joined.2 with e | e
    · rw [e]; exact h.joined.2
    · exact .inr e⟩
  report := k.report.trans h.report
  statusTimer := k.statusTimer.trans h.statusTimer
  custodyQueue := h.custodyQueue.trans k.custodyQueue
  restores := k.restores.trans h.restores
  stopHold := k.stopHold.trans h.stopHold
  latched l n := k.latched l (h.latched l n)
  lineStop n := k.lineStop (h.lineStop n)
  linkCounts := k.linkCounts.trans h.linkCounts
  rotor := ⟨k.rotor.1.trans h.rotor.1, k.rotor.2.trans h.rotor.2⟩
  timeouts := k.timeouts.trans h.timeouts

/-! ## One block changed -/

section
variable (s : State)

theorem frame_onZones (f : ZoneLogic → ZoneLogic) : HandOnFrame s (s.onZones f) :=
  { HandOnFrame.refl s with outside := by intro b; cases b <;> simp [handOnBlocks, Block.Same] }

theorem frame_onChamber (f : Chamber → Chamber) : HandOnFrame s (s.onChamber f) :=
  { HandOnFrame.refl s with outside := by intro b; cases b <;> simp [handOnBlocks, Block.Same] }

theorem frame_onRotor (f : Rotor → Rotor) (h : (f s.rotor).stalls = s.rotor.stalls ∧ (f s.rotor).period = s.rotor.period) :
    HandOnFrame s (s.onRotor f) :=
  { HandOnFrame.refl s with
    outside := by intro b; cases b <;> simp [handOnBlocks, Block.Same]
    rotor := h }

theorem frame_onFeed (f : Feed → Feed) (h : (f s.feed).timeouts = s.feed.timeouts) : HandOnFrame s (s.onFeed f) :=
  { HandOnFrame.refl s with
    outside := by intro b; cases b <;> simp [handOnBlocks, Block.Same]
    timeouts := h }

/-- The hazard evaluator changed but for its causes. -/
theorem frame_onHazard (f : Evaluator → Evaluator) (h₀ : (f s.hazard).causes = s.hazard.causes)
    (h₁ : (f s.hazard).restores = s.hazard.restores) (h₂ : (f s.hazard).stopHold = s.hazard.stopHold) :
    HandOnFrame s (s.onHazard f) :=
  { HandOnFrame.refl s with
    outside := by intro b; cases b <;> simp [handOnBlocks, Block.Same]
    restores := h₁
    stopHold := h₂
    latched := fun l h => by simpa [Latched, h₀] using h
    lineStop := fun h => by simpa [LineStopLaw, h₀, h₂] using h }

/-- The hazard evaluator changed with its causes. -/
theorem frame_onHazard_causes (f : Evaluator → Evaluator)
    (h₀ : ∀ l : Latch, Latched s l → Latched (s.onHazard f) l) (h₃ : LineStopLaw s → LineStopLaw (s.onHazard f))
    (h₁ : (f s.hazard).restores = s.hazard.restores) (h₂ : (f s.hazard).stopHold = s.hazard.stopHold) :
    HandOnFrame s (s.onHazard f) :=
  { HandOnFrame.refl s with
    outside := by intro b; cases b <;> simp [handOnBlocks, Block.Same]
    restores := h₁
    stopHold := h₂
    latched := h₀
    lineStop := h₃ }

theorem frame_onHandoff (f : Handoff → Handoff) (h₁ : (f s.handoff).expect = s.handoff.expect)
    (h₂ : (f s.handoff).transit = s.handoff.transit)
    (h₃ : (f s.handoff).exitGate = s.handoff.exitGate ∧ (f s.handoff).gate = s.handoff.gate) :
    HandOnFrame s (s.onHandoff f) :=
  { HandOnFrame.refl s with
    outside := by intro b; cases b <;> simp [handOnBlocks, Block.Same]
    expect := h₁
    transit := h₂
    exit := h₃ }

theorem frame_onCustody (f : Custody → Custody)
    (h₁ : (f s.custody).list.map Entry.identity = s.custody.list.map Entry.identity)
    (h₂ : (f s.custody).nextSerial = s.custody.nextSerial) (h₃ : (f s.custody).orphanSeq = s.custody.orphanSeq)
    (h₄ : { (f s.custody).counts with withdrawals := s.custody.counts.withdrawals } = s.custody.counts) :
    HandOnFrame s (s.onCustody f) :=
  { HandOnFrame.refl s with
    outside := by intro b; cases b <;> simp [handOnBlocks, Block.Same]
    packs := h₁
    nextSerial := h₂
    orphanSeq := h₃
    counts := h₄ }

theorem frame_onLink (f : Link → Link) (h₁ : (f s.link).rx = s.link.rx)
    (h₂ : (f s.link).on = s.link.on ∧ ((f s.link).state = s.link.state ∨ (f s.link).state = .emitting))
    (h₃ : (f s.link).report = s.link.report) (h₄ : (f s.link).statusTimer = s.link.statusTimer)
    (h₅ : s.link.custody <+: (f s.link).custody)
    (h₆ : LinkCounts.traffic (f s.link).counts = LinkCounts.traffic s.link.counts) : HandOnFrame s (s.onLink f) :=
  { HandOnFrame.refl s with
    outside := by intro b; cases b <;> simp [handOnBlocks, Block.Same]
    rx := h₁
    joined := h₂
    report := h₃
    statusTimer := h₄
    custodyQueue := h₅
    linkCounts := h₆ }

theorem frame_onScanner (f : Scanner → Scanner) (h : noStartupRound s → noStartupRound (s.onScanner f)) :
    HandOnFrame s (s.onScanner f) :=
  { HandOnFrame.refl s with
    outside := by intro b; cases b <;> simp [handOnBlocks, Block.Same]
    loader := fun n => ⟨rfl, h n⟩ }

theorem modifyAt_getElem {α : Type} {n : Nat} (v : Vector α n) (i j : Fin n) (f : α → α) :
    (modifyAt v i f)[j] = if i = j then f v[j] else v[j] := by
  unfold modifyAt
  by_cases h : i = j
  · subst h; simp
  · have hne : i.val ≠ j.val := fun e => h (Fin.ext e)
    simp [h, Vector.getElem_set_ne i.isLt j.isLt hne]

theorem frame_changePoint (p : PointId) (f : Point → Point) (h : Point.found (f s.points[p]) = Point.found s.points[p]) :
    HandOnFrame s (changePoint p f s) :=
  { HandOnFrame.refl s with
    outside := by intro b; cases b <;> simp [handOnBlocks, Block.Same, changePoint]
    points := fun q => by
      simp only [changePoint, State.onPoints_points, modifyAt_getElem]
      split
      · next e => subst e; exact h
      · rfl }

/-- What a change of one channel must keep for `HandOnFrame`. -/
structure ChannelFrame (conn : Bool) (c d : Channel) : Prop where
  finished : c.state = .done → d = c
  connected : conn = true → c.state ≠ .empty → d.state ≠ .empty ∧ Channel.readings d = Channel.readings c

theorem frame_onChannels (f : Vector Channel 4 → Vector Channel 4)
    (h : ∀ c : ChannelId, ChannelFrame s.pins.conn[c].level s.channels[c] (f s.channels)[c]) :
    HandOnFrame s (s.onChannels f) :=
  { HandOnFrame.refl s with
    outside := by intro b; cases b <;> simp [handOnBlocks, Block.Same]
    finished := fun c => (h c).finished
    connected := fun c => (h c).connected }

theorem frame_changeChannel (c : ChannelId) (f : Channel → Channel)
    (h : ChannelFrame s.pins.conn[c].level s.channels[c] (f s.channels[c])) : HandOnFrame s (changeChannel c f s) :=
  frame_onChannels s _ fun d => by
    rw [modifyAt_getElem]
    split
    · next e => subst e; exact h
    · exact ⟨fun _ => rfl, fun _ n => ⟨n, rfl⟩⟩

end

/-! ## Shared operations -/

/-- A change that hands on anything. -/
abbrev Framed (s : State) (r : Fx) : Prop := Fx.Within HandOnFrame (fun _ => True) s r

theorem Framed.of {s : State} {r : Fx} (h : HandOnFrame s r.1) : Framed s r := ⟨h, fun _ _ => trivial⟩

theorem Framed.quiet {s t : State} (h : HandOnFrame s t) : Framed s (Machine.quiet t) := Framed.of h

theorem Framed.pair {s t : State} {ns : List Notice} (h : HandOnFrame s t) : Framed s (t, ns) := Framed.of h

theorem Framed.andThen {s : State} {r : Fx} {f : State → Fx} (h : Framed s r) (hf : ∀ t, Framed t (f t)) :
    Framed s (r.andThen f) := Fx.Within.andThen HandOnFrame.trans h (hf r.1)

theorem Framed.tell {s : State} {r : Fx} {ns : List Notice} (h : Framed s r) : Framed s (r.tell ns) :=
  Framed.of h.1

theorem Framed.after {s : State} {r : Fx} {f : State → State} (h : Framed s r) (hf : ∀ t, HandOnFrame t (f t)) :
    Framed s (r.after f) := Framed.of (h.1.trans (hf r.1))

theorem Framed.forEach {α : Type} {f : α → State → Fx} (hf : ∀ x s, Framed s (f x s)) (xs : List α) (s : State) :
    Framed s (forEach f xs s) := Fx.Within.forEach HandOnFrame.refl HandOnFrame.trans hf xs s

section
variable (s : State)

theorem identity_map_of {l : List Entry} {f : Entry → Entry} (h : ∀ e, Entry.identity (f e) = Entry.identity e) :
    (l.map f).map Entry.identity = l.map Entry.identity := by
  rw [List.map_map]
  exact List.map_congr_left fun e _ => h e

theorem changeEntry_frame (t : Token) (f : Entry → Entry) (h : ∀ e, Entry.identity (f e) = Entry.identity e) :
    HandOnFrame s (changeEntry t f s) := by
  refine frame_onCustody s _ ?_ rfl rfl rfl
  exact identity_map_of fun e => by split <;> simp [h]

theorem requestState_frame (t : Token) (a b : EntryState) (f : Entry → Entry)
    (h : ∀ e, Entry.identity (f e) = Entry.identity e) : HandOnFrame s (requestState t a b f s) := by
  unfold requestState
  split
  · exact changeEntry_frame s t _ fun e => by simpa [Entry.identity] using h e
  · exact HandOnFrame.refl s

theorem takeMark_identity (m : Mark) (e : Entry) :
    Entry.identity { e with pack := takeMark m e.pack } = Entry.identity e := by
  simp only [Entry.identity, takeMark]
  split
  · rfl
  · split <;> rfl

theorem markEntries_frame (c : Cause) : HandOnFrame s (markEntries c s) :=
  frame_onCustody s _ (identity_map_of (takeMark_identity _)) rfl rfl rfl

theorem countLink_frame (f : LinkCounts → LinkCounts)
    (h : LinkCounts.traffic (f s.link.counts) = LinkCounts.traffic s.link.counts) : HandOnFrame s (countLink f s) :=
  frame_onLink s _ rfl ⟨rfl, .inl rfl⟩ rfl rfl (List.prefix_refl _) h

theorem flagLinkError_frame : HandOnFrame s (flagLinkError s) := by
  unfold flagLinkError
  split
  · exact frame_onHazard s _ rfl rfl rfl
  · exact HandOnFrame.refl s

theorem flagPointAlarm_frame : HandOnFrame s (flagPointAlarm s) := by
  unfold flagPointAlarm
  split
  · exact frame_onHazard s _ rfl rfl rfl
  · exact HandOnFrame.refl s

theorem flagZonePending_frame : HandOnFrame s (flagZonePending s) := by
  unfold flagZonePending
  split
  · exact frame_onHazard s _ rfl rfl rfl
  · exact HandOnFrame.refl s

theorem flagDiscrepancy_frame : HandOnFrame s (flagDiscrepancy s) := by
  unfold flagDiscrepancy
  split
  · exact frame_onHazard s _ rfl rfl rfl
  · exact HandOnFrame.refl s

theorem queueAlarm_frame (p : Payload) : HandOnFrame s (queueAlarm p s) := by
  unfold queueAlarm
  split
  · exact frame_onLink s _ rfl ⟨rfl, .inl rfl⟩ rfl rfl (List.prefix_refl _) rfl
  · refine HandOnFrame.trans ?_ (countLink_frame _ _ rfl)
    exact frame_onLink s _ rfl ⟨rfl, .inl rfl⟩ rfl rfl (List.prefix_refl _) rfl

theorem queueCustody_frame (dest : Nat) (p : Payload) : Framed s (queueCustody dest p s) := by
  unfold queueCustody
  split
  · exact Framed.quiet (frame_onLink s _ rfl ⟨rfl, .inl rfl⟩ rfl rfl (List.prefix_append _ _) rfl)
  · exact Framed.of ((countLink_frame s _ rfl).trans (flagLinkError_frame _))

theorem countWithdrawals_frame :
    HandOnFrame s (countCustody (fun c => { c with withdrawals := c.withdrawals.bump }) s) :=
  frame_onCustody s _ rfl rfl rfl rfl

/-! ## The hazard evaluator -/

theorem announce_frame (c : Cause) (place : Nat × Nat) : HandOnFrame s (announce c place s) :=
  ((queueAlarm_frame s _).trans (frame_onHazard _ _ rfl rfl rfl)).trans (markEntries_frame _ c)

@[simp] theorem causeAt_index (c : Cause) : causeAt (Cause.index c) = c := by cases c <;> rfl

@[simp] theorem stepCause_active (c : Cause) (r : CauseRecord) : (stepCause s c r).active = condition s c := by
  unfold stepCause
  dsimp only
  generalize (if c = Cause.peerHazard then { r with level := s.peers.level } else r) = r'
  split
  · next h => simp only [Bool.and_eq_true] at h; exact h.1.1.symm
  · rfl

@[simp] theorem stepCause_latch (c : Cause) (r : CauseRecord) : (stepCause s c r).latch = r.latch := by
  unfold stepCause
  dsimp only
  split <;> split <;> rfl

/-- R120: the causes as the evaluator takes the facts present. -/
theorem steppedCauses_getElem (c : Cause) :
    (tabulate fun i => stepCause s (causeAt i) s.hazard.causes[i])[Cause.index c]
      = stepCause s c s.hazard.causes[Cause.index c] := by
  rw [tabulate_getElem_fin, causeAt_index]

theorem condition_latch (l : Latch) : condition s l.cause = s.hazard.causes[Cause.index l.cause].latch := by
  cases l <;> rfl

theorem setHazards_frame :
    HandOnFrame s (setHazards (tabulate fun i => stepCause s (causeAt i) s.hazard.causes[i]) s) := by
  refine frame_onHazard_causes s _ (fun l h => ?_) (fun _ => ?_) rfl rfl
  · simp only [Latched, State.onHazard_hazard]
    rw [steppedCauses_getElem, stepCause_latch, stepCause_active, condition_latch]
    exact ⟨h.1, h.1⟩
  · simp only [LineStopLaw, State.onHazard_hazard]
    rw [steppedCauses_getElem, stepCause_active]
    rfl

theorem announceAll_frame : ∀ (cs : List Cause) (s : State),
    HandOnFrame s (cs.foldl (fun s c => announce c (alarmPlace s c) s) s)
  | [], s => HandOnFrame.refl s
  | c :: cs, s => (announce_frame s c _).trans (announceAll_frame cs _)

theorem reassess_frame : Framed s (reassess s) := by
  unfold reassess
  split
  · exact Framed.of (HandOnFrame.refl s)
  · exact Framed.of ((setHazards_frame s).trans (announceAll_frame _ _))

theorem takeFact_frame (f : Fact) : Framed s (takeFact f s) := by
  unfold takeFact
  split
  · exact Framed.of ((frame_onHazard s _ rfl rfl rfl).trans (reassess_frame _).1)
  · exact Framed.of (HandOnFrame.refl s)

theorem setLatch_getElem (c : Cause) (b : Bool) (d : Cause) :
    (setLatch c b s).hazard.causes[Cause.index d] =
      if Cause.index c = Cause.index d then { s.hazard.causes[Cause.index d] with latch := b }
      else s.hazard.causes[Cause.index d] := modifyAt_getElem _ _ _ _

/-- A latch set leaves every latched cause latched. -/
theorem setLatch_frame (c : Cause) : HandOnFrame s (setLatch c true s) := by
  refine frame_onHazard_causes s _ (fun l h => ?_) (fun h => ?_) rfl rfl
  · have e := setLatch_getElem s c true l.cause
    simp only [Latched]
    rw [show (State.onHazard s _).hazard.causes[Cause.index l.cause] = _ from e]
    split
    · exact ⟨rfl, h.2⟩
    · exact h
  · have e := setLatch_getElem s c true .lineStop
    simp only [LineStopLaw]
    rw [show (State.onHazard s _).hazard.causes[Cause.index .lineStop] = _ from e]
    split <;> exact h

theorem raiseLatch_frame (l : Latch) : Framed s (raiseLatch l s) := by
  unfold raiseLatch
  split
  · refine Framed.of (HandOnFrame.trans ?_ (reassess_frame _).1)
    split
    · exact (flagDiscrepancy_frame s).trans (setLatch_frame _ _)
    · exact setLatch_frame s _
  · exact Framed.of (HandOnFrame.refl s)

theorem endAttempt_kept (l : Link) :
    (endAttempt l).rx = l.rx ∧ (endAttempt l).on = l.on ∧ (endAttempt l).state = l.state
      ∧ (endAttempt l).report = l.report ∧ (endAttempt l).statusTimer = l.statusTimer
      ∧ (endAttempt l).custody = l.custody ∧ (endAttempt l).alarms = l.alarms
      ∧ LinkCounts.traffic (endAttempt l).counts = LinkCounts.traffic l.counts := by
  unfold endAttempt placeHeldAfterKeep
  split
  · split <;> simp [LinkCounts.traffic]
  · simp

theorem requestBurst_frame : HandOnFrame s (requestBurst s) := by
  obtain ⟨h₁, h₂, _, h₄, h₅, h₆, _, h₇⟩ := endAttempt_kept s.link
  unfold requestBurst
  split
  · refine HandOnFrame.trans ?_ (countLink_frame _ _ rfl)
    refine frame_onLink s _ h₁ ⟨h₂, .inr rfl⟩ h₄ h₅ ?_ h₇
    simp [h₆]
  · exact HandOnFrame.refl s

theorem latchZone_frame (z : ZoneId) (p : PointId) : Framed s (latchZone z p s) := by
  unfold latchZone
  split
  · refine Framed.of (HandOnFrame.trans ?_ (requestBurst_frame _))
    refine HandOnFrame.trans ?_ (announce_frame _ _ _)
    refine HandOnFrame.trans ?_ (reassess_frame _).1
    refine frame_onHazard_causes s _ (fun l h => ?_) (fun h => ?_) rfl rfl
    · simp only [Latched, State.onHazard_hazard]
      rw [modifyAt_getElem]
      split
      · exact h
      · exact h
    · simp only [LineStopLaw, State.onHazard_hazard]
      rw [modifyAt_getElem]
      split
      · exact h
      · exact h
  · exact Framed.of (HandOnFrame.refl s)

theorem unlatchZone_frame (z : ZoneId) : Framed s (unlatchZone z s) := by
  unfold unlatchZone
  split
  · exact Framed.of ((frame_onHazard s _ rfl rfl rfl).trans (reassess_frame _).1)
  · exact Framed.of (HandOnFrame.refl s)

/-! ## The discharge channels -/

theorem ChannelFrame.of_not_done {conn : Bool} {c d : Channel} (h : c.state ≠ .done) (hd : d.state ≠ .empty)
    (hr : Channel.readings d = Channel.readings c) : ChannelFrame conn c d :=
  ⟨fun e => absurd e h, fun _ _ => ⟨hd, hr⟩⟩

theorem ChannelFrame.of_empty {conn : Bool} {c d : Channel} (h : c.state = .empty) : ChannelFrame conn c d :=
  ⟨fun e => by simp [h] at e, fun _ n => absurd h n⟩

theorem enterDischarge_state (flood hazard : Bool) (c : Channel) :
    (enterDischarge flood hazard c).state = .discharge ∨ (enterDischarge flood hazard c).state = .held := by
  unfold enterDischarge
  cases flood <;> cases hazard <;> simp

theorem enterDischarge_measured (flood hazard : Bool) (c : Channel) :
    Channel.measured (enterDischarge flood hazard c) = Channel.measured c := rfl

/-- What a change of line hazard or LINE_STOP can do to a channel. -/
theorem updateHolds_cases (flood hazard : Bool) (c : Channel) :
    updateHolds flood hazard c = c ∨
      ((c.state = .discharge ∨ c.state = .held)
        ∧ ((updateHolds flood hazard c).state = .discharge ∨ (updateHolds flood hazard c).state = .held)
        ∧ Channel.measured (updateHolds flood hazard c) = Channel.measured c) := by
  unfold updateHolds
  dsimp only
  split
  · next h =>
    refine .inr ⟨.inl h, ?_, ?_⟩
    · split <;> simp [enterHeld, h]
    · split <;> rfl
  · next h =>
    refine .inr ⟨.inr h, ?_, ?_⟩
    · split
      · simp [h]
      · exact enterDischarge_state _ _ _
    · split <;> rfl
  · exact .inl rfl

theorem updateHolds_frame (conn flood hazard : Bool) (c : Channel) :
    ChannelFrame conn c (updateHolds flood hazard c) := by
  rcases updateHolds_cases flood hazard c with e | ⟨h, k, m⟩
  · rw [e]; exact ⟨fun _ => rfl, fun _ n => ⟨n, rfl⟩⟩
  · refine ChannelFrame.of_not_done ?_ ?_ ?_
    · rcases h with h | h <;> simp [h]
    · rcases k with k | k <;> simp [k]
    · simp only [Channel.readings, m]

theorem channelsTakeHazard_frame : Framed s (channelsTakeHazard s) := by
  unfold channelsTakeHazard
  split
  · refine Framed.quiet (frame_onChannels s (fun cs => tabulate fun c =>
      updateHolds (floodPresent s) (hazardPresent s) cs[c]) fun c => ?_)
    rw [tabulate_getElem_fin]
    exact updateHolds_frame _ _ _ _
  · exact Framed.of (HandOnFrame.refl s)

theorem writeSummary_frame (c : ChannelId) (t : Token) (m : Summary) : HandOnFrame s (writeSummary c t m s) := by
  unfold writeSummary
  split
  · split
    · exact (changeEntry_frame s t (fun e => { e with pack := { e.pack with summary := some m } }) fun _ => rfl).trans
        (frame_onCustody _ _ rfl rfl rfl rfl)
    · exact HandOnFrame.refl s
  · exact HandOnFrame.refl s

theorem changeEntry_only (t : Token) (f : Entry → Entry) : OnlyTouches [.custody] s (changeEntry t f s) := by
  intro b; cases b <;> simp [Block.Same, changeEntry]

theorem requestState_only (t : Token) (a b : EntryState) (f : Entry → Entry) :
    OnlyTouches [.custody] s (requestState t a b f s) := by
  unfold requestState
  split
  · exact changeEntry_only s t _
  · exact OnlyTouches.refl _ s

theorem writeSummary_only (c : ChannelId) (t : Token) (m : Summary) :
    OnlyTouches [.custody] s (writeSummary c t m s) := by
  unfold writeSummary
  split
  · split
    · intro b; cases b <;> simp [Block.Same, changeEntry]
    · exact OnlyTouches.refl _ s
  · exact OnlyTouches.refl _ s

theorem changeChannel_only (c : ChannelId) (f : Channel → Channel) : OnlyTouches [.channels] s (changeChannel c f s) := by
  intro b; cases b <;> simp [Block.Same, changeChannel]

theorem changeChannel_getElem (c d : ChannelId) (f : Channel → Channel) :
    (changeChannel c f s).channels[d] = if c = d then f s.channels[d] else s.channels[d] := modifyAt_getElem _ _ _ _

/-- A change of the custody list and the channels, judged on each. -/
theorem HandOnFrame.of_custody_channels {s a b t : State} (hu : HandOnFrame a b) (ha : a.custody = s.custody)
    (hb : b.custody = t.custody)
    (only : OnlyTouches [.custody, .channels] s t)
    (h : ∀ c : ChannelId, ChannelFrame s.pins.conn[c].level s.channels[c] t.channels[c]) : HandOnFrame s t where
  outside := only.mono (by decide)
  own := by rw [show t.loader = s.loader from only .loader (by decide)]
  loader n := ⟨only .loader (by decide), fun r e => n r (by rw [← show t.scanner = s.scanner from only .scanner (by decide)]; exact e)⟩
  packs := by rw [← ha, ← hb]; exact hu.packs
  nextSerial := by rw [← ha, ← hb]; exact hu.nextSerial
  orphanSeq := by rw [← ha, ← hb]; exact hu.orphanSeq
  counts := by rw [← ha, ← hb]; exact hu.counts
  expect := by rw [show t.handoff = s.handoff from only .handoff (by decide)]
  transit := by rw [show t.handoff = s.handoff from only .handoff (by decide)]
  exit := by rw [show t.handoff = s.handoff from only .handoff (by decide)]; exact ⟨rfl, rfl⟩
  finished c := (h c).finished
  connected c := (h c).connected
  points p := by rw [show t.points = s.points from only .points (by decide)]
  rx := by rw [show t.link = s.link from only .link (by decide)]
  joined := by rw [show t.link = s.link from only .link (by decide)]; exact ⟨rfl, .inl rfl⟩
  linkCounts := by rw [show t.link = s.link from only .link (by decide)]
  rotor := by rw [show t.rotor = s.rotor from only .rotor (by decide)]; exact ⟨rfl, rfl⟩
  timeouts := by rw [show t.feed = s.feed from only .feed (by decide)]
  report := by rw [show t.link = s.link from only .link (by decide)]
  statusTimer := by rw [show t.link = s.link from only .link (by decide)]
  custodyQueue := (show t.link = s.link from only .link (by decide)) ▸ List.prefix_refl _
  restores := by rw [show t.hazard = s.hazard from only .hazard (by decide)]
  stopHold := by rw [show t.hazard = s.hazard from only .hazard (by decide)]
  latched l n := by rw [Latched, show t.hazard = s.hazard from only .hazard (by decide)]; exact n
  lineStop n := by rw [LineStopLaw, show t.hazard = s.hazard from only .hazard (by decide)]; exact n

/-- The state of a channel, and of the list, after a release. -/
theorem releaseChannel_custody (c : ChannelId) :
    HandOnFrame s ((releaseChannel c s).1.onChannels fun _ => s.channels)
      ∧ OnlyTouches [.custody, .channels] s (releaseChannel c s).1
      ∧ ∀ d : ChannelId, (releaseChannel c s).1.channels[d]
        = if c = d then { s.channels[d] with state := .empty, token := none, verdict := none } else s.channels[d] := by
  unfold releaseChannel
  cases h : s.channels[c].token with
  | none =>
    refine ⟨?_, (changeChannel_only s c _).mono (by decide), fun d => ?_⟩
    · exact HandOnFrame.refl s
    · rw [changeChannel_getElem]
  | some t =>
    have ho := requestState_only s t .inChannel .ready fun e => { e with channel := none }
    have hch : (requestState t .inChannel .ready (fun e => { e with channel := none }) s).channels = s.channels :=
      ho .channels (by decide)
    refine ⟨?_, ?_, fun d => ?_⟩
    · have e : ((changeChannel c (fun ch => { ch with state := .empty, token := none, verdict := none })
          (requestState t .inChannel .ready (fun e => { e with channel := none }) s)).onChannels fun _ => s.channels)
          = requestState t .inChannel .ready (fun e => { e with channel := none }) s := by
        simp only [changeChannel, State.onChannels, ← hch]
      simp only
      rw [e]
      exact requestState_frame s t _ _ _ fun _ => rfl
    · exact (ho.mono (by decide)).trans ((changeChannel_only _ c _).mono (by decide))
    · rw [changeChannel_getElem, hch]

/-- What recording a verdict changes: the channel's record closed, and the list with its packs kept. -/
theorem recordVerdict_spec (c : ChannelId) (v : Verdict) :
    OnlyTouches [.custody, .channels] s (recordVerdict c v s)
      ∧ (recordVerdict c v s).channels = (changeChannel c (closeRecord v) s).channels
      ∧ HandOnFrame (changeChannel c (closeRecord v) s) (recordVerdict c v s) := by
  unfold recordVerdict
  dsimp only
  split
  · next t _ =>
    have hw := writeSummary_only (changeChannel c (closeRecord v) s) c t
      (buildSummary v (changeChannel c (closeRecord v) s).loader.own (changeChannel c (closeRecord v) s).channels[c])
    exact ⟨((changeChannel_only s c _).mono (by decide)).trans (hw.mono (by decide)), hw .channels (by decide),
      writeSummary_frame _ _ _ _⟩
  · exact ⟨(changeChannel_only s c _).mono (by decide), rfl, HandOnFrame.refl _⟩

/-- What a verdict leaves of its channel: DONE with the closed record, or EMPTY where CONN is low. -/
theorem setVerdict_channels (c : ChannelId) (v : Verdict) (d : ChannelId) :
    (setVerdict c v s).1.channels[d] =
      if c = d then
        (if s.pins.conn[c].level then closeRecord v s.channels[d]
         else { closeRecord v s.channels[d] with state := .empty, token := none, verdict := none })
      else s.channels[d] := by
  obtain ⟨ho, hch, _⟩ := recordVerdict_spec s c v
  have hp : (recordVerdict c v s).pins = s.pins := ho .pins (by decide)
  have hd : (recordVerdict c v s).channels[d] = if c = d then closeRecord v s.channels[d] else s.channels[d] := by
    simp only [hch]
    exact changeChannel_getElem s c d _
  unfold setVerdict
  dsimp only
  rw [hp]
  split
  · exact hd
  · simp only [Fx.andThen]
    rw [(releaseChannel_custody _ c).2.2 d, hd]
    split <;> rfl

/-- A verdict touches the list and the channels, and keeps the packs of the list. -/
theorem setVerdict_custody (c : ChannelId) (v : Verdict) :
    OnlyTouches [.custody, .channels] s (setVerdict c v s).1
      ∧ HandOnFrame (changeChannel c (closeRecord v) s) ((setVerdict c v s).1.onChannels fun _ =>
          (changeChannel c (closeRecord v) s).channels) := by
  obtain ⟨ho, hch, hf⟩ := recordVerdict_spec s c v
  unfold setVerdict
  dsimp only
  split
  · refine ⟨ho, ?_⟩
    rw [← hch]
    exact hf
  · obtain ⟨h₁, h₂, _⟩ := releaseChannel_custody (recordVerdict c v s) c
    refine ⟨ho.trans h₂, ?_⟩
    rw [← hch]
    exact hf.trans h₁

theorem setVerdict_frame (c : ChannelId) (v : Verdict) (h₁ : s.channels[c].state ≠ .done) :
    Framed s (setVerdict c v s) := by
  obtain ⟨only, hu⟩ := setVerdict_custody s c v
  refine Framed.of (HandOnFrame.of_custody_channels hu rfl rfl only fun d => ?_)
  rw [setVerdict_channels]
  split
  · next e =>
    subst e
    refine ⟨fun e => absurd e h₁, fun hp _ => ?_⟩
    simp only [hp, if_true]
    exact ⟨by simp [closeRecord], rfl⟩
  · exact ⟨fun _ => rfl, fun _ n => ⟨n, rfl⟩⟩

theorem connectCheck_frame (c : ChannelId) (h : s.channels[c].state ≠ .done) : Framed s (connectCheck c s) := by
  unfold connectCheck
  split
  · exact setVerdict_frame s c _ h
  · refine Framed.of (frame_changeChannel s c _ (ChannelFrame.of_not_done h ?_ rfl))
    rcases enterDischarge_state (floodPresent s) (hazardPresent s) s.channels[c] with e | e <;> rw [e] <;> decide

theorem assignOne_frame (c : ChannelId) : Framed s (assignOne c s) := by
  unfold assignOne
  split
  · next e h _ =>
    have hr := requestState_frame s e.pack.token .waiting .inChannel (fun e => { e with channel := some c }) fun _ => rfl
    have ho := requestState_only s e.pack.token .waiting .inChannel fun e => { e with channel := some c }
    dsimp only
    revert hr ho
    generalize requestState e.pack.token .waiting .inChannel _ s = u
    intro hr ho
    have hch : u.channels = s.channels := ho .channels (by decide)
    have hc : HandOnFrame s (changeChannel c (takeToken e.pack.token) u) :=
      hr.trans (frame_changeChannel u c _ (ChannelFrame.of_empty (by rw [hch]; exact h)))
    split
    · refine Framed.of (hc.trans (connectCheck_frame _ c ?_).1)
      rw [changeChannel_getElem]
      simp [takeToken]
    · exact Framed.quiet hc
  · exact Framed.quiet (HandOnFrame.refl s)

theorem assignChannels_frame : Framed s (assignChannels s) := by
  unfold assignChannels
  split
  · exact Framed.forEach (fun c t => assignOne_frame t c) _ s
  · exact Framed.quiet (HandOnFrame.refl s)

theorem fireOne_frame (z : ZoneId) (c : ChannelId) : Framed s (fireOne z c s) := by
  unfold fireOne
  split
  · next h =>
    refine setVerdict_frame s c _ fun e => ?_
    rw [e] at h
    exact absurd h.2 (by decide)
  · exact Framed.quiet (HandOnFrame.refl s)

theorem channelsTakeFire_frame (z : ZoneId) : Framed s (channelsTakeFire z s) := by
  unfold channelsTakeFire
  split
  · exact Framed.forEach (fun c t => fireOne_frame t z c) _ s
  · exact Framed.quiet (HandOnFrame.refl s)

/-! ## The hand-off controller -/

theorem recordOffer_frame (t : Token) (n : Nat) : HandOnFrame s (recordOffer t n s) :=
  frame_onHandoff s _ rfl rfl ⟨rfl, rfl⟩

theorem clearOffer_frame : HandOnFrame s (clearOffer s) := frame_onHandoff s _ rfl rfl ⟨rfl, rfl⟩

theorem startRetry_frame : HandOnFrame s (startRetry s) := frame_onHandoff s _ rfl rfl ⟨rfl, rfl⟩

theorem makeOffer_frame (e : Entry) : Framed s (makeOffer e s) :=
  Framed.after (queueCustody_frame s _ _) fun t =>
    (requestState_frame t _ _ _ id fun _ => rfl).trans (recordOffer_frame _ _ _)

theorem makeReoffer_frame (e : Entry) : Framed s (makeReoffer e s) :=
  Framed.after (queueCustody_frame s _ _) fun t => recordOffer_frame t _ _

theorem candidateSearch_frame : Framed s (candidateSearch s) := by
  unfold candidateSearch
  split
  · split
    · exact makeReoffer_frame s _
    · split
      · exact makeOffer_frame s _
      · exact Framed.quiet (HandOnFrame.refl s)
  · exact Framed.quiet (HandOnFrame.refl s)

theorem returnOffered_frame (t : Token) : HandOnFrame s (returnOffered t s) :=
  requestState_frame s _ _ _ id fun _ => rfl

theorem queueWithdraw_frame (t : Token) (dest : Nat) : Framed s (queueWithdraw t dest s) :=
  Framed.after (queueCustody_frame s _ _) fun t => countWithdrawals_frame t

theorem withdrawOffer_frame (o : Offer) : Framed s (withdrawOffer o s) :=
  Framed.of ((clearOffer_frame s).trans
    (Framed.after (queueWithdraw_frame _ _ _) fun t => (returnOffered_frame t _).trans (startRetry_frame _)).1)

theorem handoffTakesHazard_frame : Framed s (handoffTakesHazard s) := by
  unfold handoffTakesHazard
  split
  · split
    · split
      · exact withdrawOffer_frame s _
      · exact Framed.quiet (HandOnFrame.refl s)
    · exact candidateSearch_frame s
  · exact Framed.quiet (HandOnFrame.refl s)

theorem setAdrift_identity (n : Nat) (b : Bool) (ms : Nat) (e : Entry) :
    Entry.identity (setAdrift n b ms e) = Entry.identity e := by
  unfold setAdrift
  split
  · split <;> rfl
  · rfl

theorem returnOfferTo_frame (n : Nat) : HandOnFrame s (returnOfferTo n s) := by
  unfold returnOfferTo
  split
  · split
    · exact ((clearOffer_frame s).trans (returnOffered_frame _ _)).trans (startRetry_frame _)
    · exact HandOnFrame.refl s
  · exact HandOnFrame.refl s

theorem takeDownstreamLost_frame (n : Nat) (b : Bool) : Framed s (takeDownstreamLost n b s) := by
  unfold takeDownstreamLost
  dsimp only
  split
  · exact Framed.pair ((returnOfferTo_frame s n).trans
      (frame_onCustody _ _ (identity_map_of (setAdrift_identity _ _ _)) rfl rfl rfl))
  · exact Framed.quiet (HandOnFrame.refl s)

theorem takePeerNews_frame (n : Nat) : Framed s (takePeerNews n s) := by
  unfold takePeerNews
  split
  · exact candidateSearch_frame s
  · exact Framed.quiet (HandOnFrame.refl s)

/-! ## Zone logic -/

theorem changeZone_frame (z : ZoneId) (f : Zone → Zone) : HandOnFrame s (changeZone z f s) := frame_onZones s _

theorem stopPersistence_frame (z : ZoneId) : HandOnFrame s (stopPersistence z s) := frame_onZones s _

theorem confirmZone_frame (z : ZoneId) (p : PointId) (b : Basis) : Framed s (confirmZone z p b s) :=
  Framed.of ((changeZone_frame s _ _).trans (stopPersistence_frame _ _))

theorem enterPending_frame (z : ZoneId) (p : PointId) : Framed s (enterPending z p s) :=
  Framed.of ((changeZone_frame s _ _).trans (flagZonePending_frame _))

theorem workHealth_frame (z : ZoneId) : HandOnFrame s (workHealth z s) := changeZone_frame s _ _

theorem workFault_frame (z : ZoneId) : Framed s (workFault z s) := by
  unfold workFault
  dsimp only
  split
  · exact Framed.quiet (HandOnFrame.refl s)
  · split
    · exact Framed.of (changeZone_frame s _ _)
    · split
      · exact Framed.of (changeZone_frame s _ _)
      · exact Framed.quiet (HandOnFrame.refl s)

theorem workPersistence_frame (z : ZoneId) (p : PointId) (st : PointReport) :
    HandOnFrame s (workPersistence z p st s) := by
  unfold workPersistence
  dsimp only
  split
  · split
    · exact frame_onZones s _
    · exact HandOnFrame.refl s
  · exact frame_onZones s _

theorem judgeAlarm_frame (z : ZoneId) (p : PointId) : Framed s (judgeAlarm z p s) := by
  unfold judgeAlarm
  dsimp only
  repeat' split
  all_goals first
    | exact confirmZone_frame s _ _ _
    | exact enterPending_frame s _ _
    | exact Framed.quiet (HandOnFrame.refl s)

theorem judgeOther_frame (z : ZoneId) (p : PointId) : Framed s (judgeOther z p s) := by
  unfold judgeOther
  dsimp only
  repeat' split
  all_goals first
    | exact confirmZone_frame s _ _ _
    | exact Framed.of (changeZone_frame s _ _)
    | exact Framed.quiet (HandOnFrame.refl s)

theorem takePointState_frame (p : PointId) (st : PointReport) : Framed s (takePointState p st s) := by
  unfold takePointState
  split
  · split
    · next z _ =>
      have h : HandOnFrame s (workHealth z (recordMember p st s)) :=
        (frame_onZones s _).trans (workHealth_frame _ z)
      refine Framed.of (h.trans ?_)
      refine (Framed.andThen (Framed.after (workFault_frame _ z) fun t => workPersistence_frame t _ _ _) fun t => ?_).1
      split
      · exact judgeAlarm_frame t _ _
      · exact judgeOther_frame t _ _
    · exact Framed.quiet (HandOnFrame.refl s)
  · exact Framed.quiet (HandOnFrame.refl s)

theorem restoreZone_frame (z : ZoneId) : Framed s (restoreZone z s) := by
  unfold restoreZone
  dsimp only
  repeat' split
  all_goals first
    | exact Framed.of (changeZone_frame s _ _)
    | exact Framed.quiet (HandOnFrame.refl s)

theorem restoreZones_frame : Framed s (restoreZones s) := by
  unfold restoreZones
  split
  · exact Framed.forEach (fun z t => restoreZone_frame t z) _ s
  · exact Framed.quiet (HandOnFrame.refl s)

/-! ## Chamber, rotor and feed -/

theorem reportOxygen_frame : Framed s (reportOxygen s) := by
  unfold reportOxygen
  dsimp only
  split
  · exact Framed.quiet (HandOnFrame.refl s)
  · exact Framed.pair (frame_onChamber s _)

theorem workOxygen_frame : Framed s (workOxygen s) := by
  unfold workOxygen
  dsimp only
  split
  · exact Framed.tell (Framed.of (((frame_onChamber s _).trans (frame_onFeed _ _ rfl)).trans (reportOxygen_frame _).1))
  · exact Framed.quiet (HandOnFrame.refl s)

theorem leaveFlood_frame : Framed s (leaveFlood s) := by
  unfold leaveFlood
  split
  · exact Framed.tell (Framed.of ((frame_onChamber s _).trans (reportOxygen_frame _).1))
  · exact Framed.quiet (HandOnFrame.refl s)

theorem chamberTakesConfirmed_frame (z : ZoneId) : Framed s (chamberTakesConfirmed z s) := by
  unfold chamberTakesConfirmed
  dsimp only
  split
  · have h := frame_onChamber s fun c => { c with confirmed := c.confirmed.set z true }
    split
    case h_4 | h_5 => exact Framed.quiet h
    all_goals exact Framed.tell (Framed.of ((h.trans (frame_onChamber _ _)).trans (reportOxygen_frame _).1))
  · exact Framed.quiet (HandOnFrame.refl s)

theorem chamberTakesCleared_frame (z : ZoneId) : Framed s (chamberTakesCleared z s) := by
  unfold chamberTakesCleared
  split
  · exact Framed.of ((frame_onChamber s _).trans (leaveFlood_frame _).1)
  · exact Framed.quiet (HandOnFrame.refl s)

theorem chamberTakesRestore_frame : Framed s (chamberTakesRestore s) := by
  unfold chamberTakesRestore
  split
  · exact leaveFlood_frame s
  · exact Framed.quiet (HandOnFrame.refl s)

theorem setLabour_frame (b : Bool) : Framed s (setLabour b s) := by
  unfold setLabour
  split
  · exact Framed.quiet (HandOnFrame.refl s)
  · exact Framed.pair (frame_onRotor s _ ⟨rfl, rfl⟩)

theorem rotorLook_frame : Framed s (rotorLook s) := by
  unfold rotorLook
  split
  · split
    · exact Framed.quiet (HandOnFrame.refl s)
    · exact Framed.tell (Framed.of ((frame_onRotor s _ ⟨rfl, rfl⟩).trans (setLabour_frame _ _).1))
  · split
    · exact Framed.tell (Framed.of ((frame_onRotor s _ ⟨rfl, rfl⟩).trans (setLabour_frame _ _).1))
    · exact Framed.quiet (HandOnFrame.refl s)

theorem returnFeed_frame (e : Entry) : HandOnFrame s (returnFeed e s) :=
  ((frame_onFeed s _ rfl).trans (requestState_frame _ _ _ _ id fun _ => rfl)).trans (frame_onFeed _ _ rfl)

theorem feedLook_frame : Framed s (feedLook s) := by
  unfold feedLook
  split
  · split
    · exact Framed.quiet (HandOnFrame.refl s)
    · exact Framed.quiet (returnFeed_frame s _)
  · split
    · split
      · exact Framed.quiet ((requestState_frame s _ _ _ id fun _ => rfl).trans (frame_onFeed _ _ rfl))
      · exact Framed.quiet (HandOnFrame.refl s)
    · exact Framed.quiet (HandOnFrame.refl s)

/-! ## The point scanner -/

theorem passState_frame (p : PointId) (st : PointReport) : HandOnFrame s (passState p st s) := by
  unfold passState
  dsimp only
  split
  · exact (frame_changePoint s p _ rfl).trans (flagPointAlarm_frame _)
  · exact frame_changePoint s p _ rfl

theorem refreshPoint_frame (p : PointId) : Framed s (refreshPoint p s) := by
  unfold refreshPoint
  dsimp only
  split
  · exact Framed.quiet (HandOnFrame.refl s)
  · have h := frame_changePoint s p
      (fun pt => { pt with reported := reportOf s.cfg.points[p].kind (s.scanner.testing p) s.points[p] }) rfl
    split
    · exact Framed.pair (h.trans (passState_frame _ _ _))
    · exact Framed.quiet h

theorem noStartupRound_map {t : State} (f : Round → Round) (hf : ∀ r, (f r).startup = r.startup)
    (h : t.scanner.round = s.scanner.round.map f) (n : noStartupRound s) : noStartupRound t := by
  intro r e
  rw [h] at e
  obtain ⟨r₀, e₀, rfl⟩ := Option.map_eq_some_iff.1 e
  rw [hf]
  exact n r₀ e₀

theorem setPart_frame (part : TestPart) (p : PointId) : HandOnFrame s (setPart part p s) :=
  frame_onScanner s _ (noStartupRound_map s (fun r => { r with point := p, part := part }) (fun _ => rfl) rfl)

theorem skipPoint_frame (p : PointId) : HandOnFrame s (skipPoint p s) := frame_changePoint s p _ rfl

theorem frame_onScanner_round (f : Scanner → Scanner) (h : (f s.scanner).round = s.scanner.round) :
    HandOnFrame s (s.onScanner f) :=
  frame_onScanner s f fun n r e => n r (by rw [← h]; exact e)

theorem lampOn_frame (p : PointId) : Framed s (lampOn p s) :=
  Framed.of ((((setPart_frame s _ p).trans (frame_onScanner_round _ _ rfl)).trans (frame_changePoint _ p _ rfl)).trans
    (refreshPoint_frame _ p).1)

theorem lampOff_frame : HandOnFrame s (lampOff s) := frame_onScanner_round s _ rfl

theorem abortTest_frame (p : PointId) : HandOnFrame s (abortTest p s) := by
  unfold abortTest
  dsimp only
  refine HandOnFrame.trans ?_ (frame_changePoint _ p (fun pt =>
    { pt with counts := { pt.counts with aborts := pt.counts.aborts.bump } }) rfl)
  have h : HandOnFrame s (lampOff (setPart (.release true) p s)) := (setPart_frame s _ p).trans (lampOff_frame _)
  refine h.trans ?_
  exact frame_onScanner_round _ _ rfl

/-- The end of a round: outside the start-up round it leaves the loader alone. -/
theorem endRound_frame (startup : Bool) (h : startup = true → ¬ noStartupRound s) :
    HandOnFrame s (endRound startup s) := by
  have hn : HandOnFrame s (s.onScanner fun k => { k with round := none }) :=
    frame_onScanner s _ fun _ r e => by simp at e
  cases startup with
  | false =>
    unfold endRound
    refine hn.trans ?_
    exact frame_onScanner_round _ (fun k => { k with intervalTimer := some s.cfg.intervalMs }) rfl
  | true =>
    exact
      { HandOnFrame.refl s with
        outside := by intro b; cases b <;> simp [handOnBlocks, Block.Same, endRound]
        own := rfl
        loader := fun n => absurd n (h rfl) }

theorem roundOver_frame (startup : Bool) : ∀ (ps : List PointId) (s : State),
    (startup = true → ¬ noStartupRound s) → Framed s (roundOver startup ps s)
  | [], s, h => Framed.quiet (endRound_frame s startup h)
  | p :: ps, s, h => by
    unfold roundOver
    split
    · exact roundOver_frame startup ps s h
    · split
      · have hs := skipPoint_frame s p
        refine Framed.of (hs.trans (roundOver_frame startup ps _ fun e n => h e ?_).1)
        exact n
      · split
        · exact Framed.quiet (setPart_frame s _ p)
        · split
          · exact Framed.quiet (setPart_frame s _ p)
          · exact lampOn_frame s p

theorem roundFrom_frame (n : Nat) : Framed s (roundFrom n s) := by
  unfold roundFrom
  split
  · next r hr =>
    refine roundOver_frame _ _ s fun e k => ?_
    have := k r hr
    simp [e] at this
  · exact Framed.quiet (HandOnFrame.refl s)

theorem lookAgain_frame (r : Round) : Framed s (lookAgain r s) := by
  unfold lookAgain
  generalize (if r.startup = true then _ else _ : Bool) = b
  split
  · exact Framed.quiet (HandOnFrame.refl s)
  · split
    · exact Framed.pair ((skipPoint_frame s _).trans (setPart_frame _ _ _))
    · exact lampOn_frame s _

theorem scannerLook_frame : Framed s (scannerLook s) := by
  unfold scannerLook
  repeat' split
  all_goals first
    | exact lookAgain_frame s _
    | exact Framed.quiet (abortTest_frame s _)
    | exact Framed.quiet (HandOnFrame.refl s)

theorem roundAgain_frame : Framed s (roundAgain s) := by
  unfold roundAgain
  split
  · exact Framed.of ((setPart_frame s _ _).trans (lookAgain_frame _ _).1)
  · exact Framed.quiet (HandOnFrame.refl s)

/-! ## Every notice, and the end of every command -/

/-- No owner that is handed a notice changes more than `HandOnFrame` lets it. -/
theorem hand_frame (n : Notice) : HandOnFrame s (hand n s).1 := by
  cases n with
  | fact f => exact (takeFact_frame s f).1
  | reassess => exact (reassess_frame s).1
  | raise l => exact (raiseLatch_frame s l).1
  | zoneConfirmed z p => exact (latchZone_frame s z p).1
  | zoneCleared z => exact (unlatchZone_frame s z).1
  | channelsHazard => exact (channelsTakeHazard_frame s).1
  | channelsFire z => exact (channelsTakeFire_frame s z).1
  | assign => exact (assignChannels_frame s).1
  | handoffHazard => exact (handoffTakesHazard_frame s).1
  | search => exact (candidateSearch_frame s).1
  | downstreamLost n b => exact (takeDownstreamLost_frame s n b).1
  | peerNews n => exact (takePeerNews_frame s n).1
  | scannerLook => exact (scannerLook_frame s).1
  | roundFrom n => exact (roundFrom_frame s n).1
  | roundAgain => exact (roundAgain_frame s).1
  | zonePoint p st => exact (takePointState_frame s p st).1
  | zoneRestore => exact (restoreZones_frame s).1
  | chamberConfirmed z => exact (chamberTakesConfirmed_frame s z).1
  | chamberCleared z => exact (chamberTakesCleared_frame s z).1
  | chamberRestore => exact (chamberTakesRestore_frame s).1
  | oxygen => exact (workOxygen_frame s).1
  | rotorLook => exact (rotorLook_frame s).1
  | feedLook => exact (feedLook_frame s).1

/-- Closing FEED with a change (R145) changes no more than `HandOnFrame` lets it. -/
theorem closing_frame (r : Fx) : HandOnFrame r.1 (r.closing s).1 :=
  Fx.closing_keeps (R := fun t => HandOnFrame r.1 t) (fun e t h => h.trans (returnFeed_frame t e)) s r (HandOnFrame.refl _)

theorem take_frame (n : Notice) : HandOnFrame s (take n s).1 := (hand_frame s n).trans (closing_frame s _)

end

/-- The hand-ons of a command keep `HandOnFrame` from the command's own effect to its end. -/
theorem finish_frame (r : Fx) : HandOnFrame r.1 (finish r) :=
  finish_keeps_all (P := fun t => HandOnFrame r.1 t) (fun n s h => h.trans (take_frame s n)) (HandOnFrame.refl _)

/-- From a command's own effect to its answer, FEED closed with it, the state keeps `HandOnFrame`. -/
theorem done_frame (s : State) (r : Fx) : ∃ t, done s r = .next t ∧ HandOnFrame r.1 t :=
  ⟨_, rfl, (closing_frame s r).trans (finish_frame _)⟩

end Sys2Proof.Machine
end

