-- ==== Sys2Proof/Laws/Calm.lean ====
section
/-! SUPPORT. What the hand-ons of a command leave alone when they concern no zone, no point and no oxygen reading, no round of
self-tests is in progress, and no channel is given a pack. -/
namespace Sys2Proof.Machine

theorem CalmFrame.refl (s : State) : CalmFrame s s where
  outside := OnlyTouches.refl _ s
  dossiers := rfl
  energy := rfl
  idle _ _ _ := rfl
  discharging _ h := ⟨h, rfl⟩
  channelCounts _ := rfl
  link := rfl
  waiting h := h
  zoneLatched _ h := h

theorem CalmFrame.trans {s t u : State} (h : CalmFrame s t) (k : CalmFrame t u) : CalmFrame s u where
  outside := h.outside.trans k.outside
  dossiers := k.dossiers.trans h.dossiers
  energy := k.energy.trans h.energy
  idle c hd hh := by
    have e := h.idle c hd hh
    rw [k.idle c (by rw [e]; exact hd) (by rw [e]; exact hh), e]
  discharging c hc := by
    obtain ⟨n, e⟩ := h.discharging c hc
    obtain ⟨n', e'⟩ := k.discharging c n
    exact ⟨n', e'.trans e⟩
  channelCounts c := (k.channelCounts c).trans (h.channelCounts c)
  link := by rw [← h.link, ← k.link]
  waiting n := k.waiting (h.waiting n)
  zoneLatched z n := k.zoneLatched z (h.zoneLatched z n)

theorem CalmFrame.scanner {s t : State} (h : CalmFrame s t) : t.scanner = s.scanner := h.outside .scanner (by decide)

/-- A calm change: its hand-ons are calm, and none gives a channel a pack unless the change itself is asked to. -/
structure Calm (s : State) (r : Fx) : Prop where
  frame : CalmFrame s r.1
  notices : ∀ n ∈ r.2, Notice.isCalm n = true ∧ n ≠ .assign

theorem Calm.quiet {s t : State} (h : CalmFrame s t) : Calm s (Machine.quiet t) :=
  ⟨h, fun n hn => by simp [Machine.quiet] at hn⟩

theorem Calm.pair {s t : State} {ns : List Notice} (h : CalmFrame s t)
    (hn : ∀ n ∈ ns, Notice.isCalm n = true ∧ n ≠ .assign) : Calm s (t, ns) := ⟨h, hn⟩

theorem Calm.after {s : State} {r : Fx} {f : State → State} (h : Calm s r) (hf : ∀ t, CalmFrame t (f t)) :
    Calm s (r.after f) := ⟨h.frame.trans (hf r.1), h.notices⟩

theorem Calm.of_frame {s t : State} {r : Fx} (h : CalmFrame s t) (k : Calm t r) : Calm s r :=
  ⟨h.trans k.frame, k.notices⟩

theorem Calm.tell {s : State} {r : Fx} {ns : List Notice} (h : Calm s r)
    (hn : ∀ n ∈ ns, Notice.isCalm n = true ∧ n ≠ .assign) : Calm s (r.tell ns) := by
  refine ⟨h.frame, fun n hm => ?_⟩
  rcases List.mem_append.1 hm with hm | hm
  · exact h.notices n hm
  · exact hn n hm

section
variable (s : State)

/-! ## One block changed -/

theorem calm_onHazard (f : Evaluator → Evaluator)
    (h : ∀ z : ZoneId, ZoneLatched s z → ZoneLatched (s.onHazard f) z) : CalmFrame s (s.onHazard f) :=
  { CalmFrame.refl s with
    outside := by intro b; cases b <;> simp [calmBlocks, Block.Same]
    zoneLatched := h }

theorem calm_onHazard_flags (f : Evaluator → Evaluator) (h₁ : (f s.hazard).zoneLatch = s.hazard.zoneLatch)
    (h₂ : (f s.hazard).causes = s.hazard.causes) : CalmFrame s (s.onHazard f) :=
  calm_onHazard s f fun z h => by simpa only [ZoneLatched, State.onHazard_hazard, h₁, h₂] using h

theorem calm_onHandoff (f : Handoff → Handoff) : CalmFrame s (s.onHandoff f) :=
  { CalmFrame.refl s with outside := by intro b; cases b <;> simp [calmBlocks, Block.Same] }

theorem calm_onLink (f : Link → Link)
    (h : { f s.link with alarms := s.link.alarms, custody := s.link.custody, counts := s.link.counts } = s.link) :
    CalmFrame s (s.onLink f) :=
  { CalmFrame.refl s with
    outside := by intro b; cases b <;> simp [calmBlocks, Block.Same]
    link := h }

theorem calm_onRotor (f : Rotor → Rotor) : CalmFrame s (s.onRotor f) :=
  { CalmFrame.refl s with outside := by intro b; cases b <;> simp [calmBlocks, Block.Same] }

theorem calm_onFeed (f : Feed → Feed) : CalmFrame s (s.onFeed f) :=
  { CalmFrame.refl s with outside := by intro b; cases b <;> simp [calmBlocks, Block.Same] }

/-- The list changed entry by entry. -/
theorem calm_mapEntries (f : Entry → Entry) (g : CustodyCounts → CustodyCounts)
    (h : ∀ e, Entry.dossier (f e) = Entry.dossier e) (hw : ∀ e, e.state ≠ .waiting → (f e).state ≠ .waiting) :
    CalmFrame s (s.onCustody fun c => { c with list := c.list.map f, counts := g c.counts }) :=
  { CalmFrame.refl s with
    outside := by intro b; cases b <;> simp [calmBlocks, Block.Same]
    dossiers := by
      simp only [State.onCustody_custody, List.map_map]
      exact List.map_congr_left fun e _ => h e
    waiting := fun n e he => by
      obtain ⟨e₀, h₀, rfl⟩ := List.mem_map.1 (by simpa using he)
      exact hw e₀ (n e₀ h₀) }

theorem calm_countCustody (g : CustodyCounts → CustodyCounts) : CalmFrame s (countCustody g s) :=
  { CalmFrame.refl s with outside := by intro b; cases b <;> simp [calmBlocks, Block.Same, countCustody] }

/-! ## Shared operations -/

theorem changeEntry_calm (t : Token) (f : Entry → Entry) (h : ∀ e, Entry.dossier (f e) = Entry.dossier e)
    (hw : ∀ e, e.state ≠ .waiting → (f e).state ≠ .waiting) : CalmFrame s (changeEntry t f s) := by
  refine calm_mapEntries s (fun e => if e.pack.token = t then f e else e) id (fun e => ?_) fun e n => ?_
  · split
    · exact h e
    · rfl
  · split
    · exact hw e n
    · exact n

theorem requestState_calm (t : Token) (a b : EntryState) (f : Entry → Entry)
    (h : ∀ e, Entry.dossier (f e) = Entry.dossier e) (hb : b ≠ .waiting) : CalmFrame s (requestState t a b f s) := by
  unfold requestState
  split
  · exact changeEntry_calm s t _ (fun e => by simpa [Entry.dossier, Entry.identity] using h e) fun _ _ => hb
  · exact CalmFrame.refl s

theorem takeMark_dossier (m : Mark) (e : Entry) :
    Entry.dossier { e with pack := takeMark m e.pack } = Entry.dossier e := by
  simp only [Entry.dossier, Entry.identity, takeMark]
  split
  · rfl
  · split <;> rfl

theorem markEntries_calm (c : Cause) : CalmFrame s (markEntries c s) :=
  calm_mapEntries s (fun e => { e with pack := takeMark ⟨c, s.loader.own⟩ e.pack }) id (takeMark_dossier _) fun _ n => n

theorem countLink_calm (f : LinkCounts → LinkCounts) : CalmFrame s (countLink f s) := calm_onLink s _ rfl

theorem flagLinkError_calm : CalmFrame s (flagLinkError s) := by
  unfold flagLinkError
  split
  · exact calm_onHazard_flags s _ rfl rfl
  · exact CalmFrame.refl s

theorem flagDiscrepancy_calm : CalmFrame s (flagDiscrepancy s) := by
  unfold flagDiscrepancy
  split
  · exact calm_onHazard_flags s _ rfl rfl
  · exact CalmFrame.refl s

theorem queueAlarm_calm (p : Payload) : CalmFrame s (queueAlarm p s) := by
  unfold queueAlarm
  split
  · exact calm_onLink s _ rfl
  · exact (calm_onLink s _ rfl).trans (countLink_calm _ _)

theorem queueCustody_calm (dest : Nat) (p : Payload) : Calm s (queueCustody dest p s) := by
  unfold queueCustody
  split
  · exact Calm.quiet (calm_onLink s _ rfl)
  · exact Calm.pair ((countLink_calm s _).trans (flagLinkError_calm _)) (by simp [Notice.isCalm])

/-! ## The hazard evaluator -/

theorem announce_calm (c : Cause) (place : Nat × Nat) : CalmFrame s (announce c place s) :=
  ((queueAlarm_calm s _).trans (calm_onHazard_flags _ _ rfl rfl)).trans (markEntries_calm _ c)

theorem announceAll_calm : ∀ (cs : List Cause) (s : State),
    CalmFrame s (cs.foldl (fun s c => announce c (alarmPlace s c) s) s)
  | [], s => CalmFrame.refl s
  | c :: cs, s => (announce_calm s c _).trans (announceAll_calm cs _)

theorem reassess_notices (n : Notice) (h : n ∈ (reassess s).2) : Notice.isCalm n = true ∧ n ≠ .assign := by
  unfold reassess at h
  split at h
  · simp [quiet] at h
  · rcases List.mem_append.1 h with h | h
    · split at h
      · simp only [hazardReaders, List.mem_cons, List.not_mem_nil, or_false] at h
        rcases h with rfl | rfl | rfl | rfl | rfl <;> simp [Notice.isCalm]
      · split at h
        · simp only [List.mem_cons, List.not_mem_nil, or_false] at h
          subst h; simp [Notice.isCalm]
        · simp at h
    · split at h
      · simp only [List.mem_cons, List.not_mem_nil, or_false] at h
        subst h; simp [Notice.isCalm]
      · simp at h

theorem setHazards_calm :
    CalmFrame s (setHazards (tabulate fun i => stepCause s (causeAt i) s.hazard.causes[i]) s) := by
  refine calm_onHazard s _ fun z h => ⟨h.1, ?_⟩
  simp only [State.onHazard_hazard]
  rw [steppedCauses_getElem, stepCause_active]
  exact List.any_eq_true.2 ⟨s.hazard.zoneLatch[z], Vector.mem_toList_iff.2 (Vector.getElem_mem _), h.1⟩

theorem reassess_calm : Calm s (reassess s) := by
  refine ⟨?_, reassess_notices s⟩
  unfold reassess
  split
  · exact CalmFrame.refl s
  · exact (setHazards_calm s).trans (announceAll_calm _ _)

theorem takeFact_calm (f : Fact) : Calm s (takeFact f s) := by
  unfold takeFact
  split
  · exact Calm.of_frame (calm_onHazard_flags s _ rfl rfl) (reassess_calm _)
  · exact Calm.quiet (CalmFrame.refl s)

theorem setLatch_calm (c : Cause) (b : Bool) : CalmFrame s (setLatch c b s) :=
  calm_onHazard s _ fun z h => ⟨h.1, by
    have e := setLatch_getElem s c b .zoneConfirmed
    simp only [setLatch] at e
    rw [e]
    split
    · exact h.2
    · exact h.2⟩

theorem raiseLatch_calm (l : Latch) : Calm s (raiseLatch l s) := by
  unfold raiseLatch
  split
  · refine Calm.of_frame ?_ (reassess_calm _)
    split
    · exact (flagDiscrepancy_calm s).trans (setLatch_calm _ _ _)
    · exact setLatch_calm s _ _
  · exact Calm.quiet (CalmFrame.refl s)

/-! ## The discharge channels -/

theorem channelsTakeHazard_calm : Calm s (channelsTakeHazard s) := by
  unfold channelsTakeHazard
  split
  · refine Calm.quiet ?_
    have h (c : ChannelId) : (State.onChannels s fun cs => tabulate fun c =>
        updateHolds (floodPresent s) (hazardPresent s) cs[c]).channels[c]
        = updateHolds (floodPresent s) (hazardPresent s) s.channels[c] := by
      rw [State.onChannels_channels, tabulate_getElem_fin]
    refine { CalmFrame.refl s with
             outside := by intro b; cases b <;> simp [calmBlocks, Block.Same]
             idle := fun c hd hh => ?_
             discharging := fun c hc => ?_
             channelCounts := fun c => ?_ }
    · rw [h]
      rcases updateHolds_cases (floodPresent s) (hazardPresent s) s.channels[c] with e | ⟨k, _, _⟩
      · exact e
      · rcases k with k | k
        · exact absurd k hd
        · exact absurd k hh
    · rw [h]
      rcases updateHolds_cases (floodPresent s) (hazardPresent s) s.channels[c] with e | ⟨_, k, m⟩
      · rw [e]; exact ⟨hc, rfl⟩
      · exact ⟨k, m⟩
    · rw [h]
      rcases updateHolds_cases (floodPresent s) (hazardPresent s) s.channels[c] with e | ⟨_, _, m⟩
      · rw [e]
      · have k : (Channel.measured (updateHolds (floodPresent s) (hazardPresent s) s.channels[c])).counts
            = (Channel.measured s.channels[c]).counts := by rw [m]
        exact k
  · exact Calm.quiet (CalmFrame.refl s)

theorem oldest_none_of_noneWaiting (h : noneWaiting s) : oldest s (fun e => e.state == .waiting) = none := by
  refine List.find?_eq_none.2 fun e he => ?_
  simpa using h e he

theorem assignOne_none (c : ChannelId) (h : noneWaiting s) : assignOne c s = quiet s := by
  unfold assignOne
  rw [oldest_none_of_noneWaiting s h]
  split
  · next e _ k => simp at k
  · rfl

/-- With no entry WAITING no channel is given a pack. -/
theorem assignChannels_none (h : noneWaiting s) : assignChannels s = quiet s := by
  unfold assignChannels
  split
  · simp [allChannels, forEach, assignOne_none s _ h, quiet, Fx.andThen]
  · rfl

/-! ## The hand-off controller -/

theorem recordOffer_calm (t : Token) (n : Nat) : CalmFrame s (recordOffer t n s) := calm_onHandoff s _

theorem candidateSearch_calm : Calm s (candidateSearch s) := by
  unfold candidateSearch
  split
  · split
    · exact Calm.after (queueCustody_calm s _ _) fun t => recordOffer_calm t _ _
    · split
      · exact Calm.after (queueCustody_calm s _ _) fun t =>
          (requestState_calm t _ _ _ id (fun _ => rfl) (by decide)).trans (recordOffer_calm _ _ _)
      · exact Calm.quiet (CalmFrame.refl s)
  · exact Calm.quiet (CalmFrame.refl s)

theorem returnOffered_calm (t : Token) : CalmFrame s (returnOffered t s) :=
  requestState_calm s _ _ _ id (fun _ => rfl) (by decide)

theorem withdrawOffer_calm (o : Offer) : Calm s (withdrawOffer o s) :=
  Calm.of_frame (calm_onHandoff s _)
    (Calm.after (Calm.after (queueCustody_calm _ _ _) fun t => calm_countCustody t _) fun t =>
      (returnOffered_calm t _).trans (calm_onHandoff _ _))

theorem handoffTakesHazard_calm : Calm s (handoffTakesHazard s) := by
  unfold handoffTakesHazard
  split
  · split
    · split
      · exact withdrawOffer_calm s _
      · exact Calm.quiet (CalmFrame.refl s)
    · exact candidateSearch_calm s
  · exact Calm.quiet (CalmFrame.refl s)

theorem setAdrift_dossier (n : Nat) (b : Bool) (ms : Nat) (e : Entry) :
    Entry.dossier (setAdrift n b ms e) = Entry.dossier e := by
  unfold setAdrift
  split
  · split <;> rfl
  · rfl

theorem setAdrift_waiting (n : Nat) (b : Bool) (ms : Nat) (e : Entry) (h : e.state ≠ .waiting) :
    (setAdrift n b ms e).state ≠ .waiting := by
  unfold setAdrift
  split
  · split
    · simp
    · exact h
    · exact h
  · exact h

theorem returnOfferTo_calm (n : Nat) : CalmFrame s (returnOfferTo n s) := by
  unfold returnOfferTo
  split
  · split
    · exact ((calm_onHandoff s _).trans (returnOffered_calm _ _)).trans (calm_onHandoff _ _)
    · exact CalmFrame.refl s
  · exact CalmFrame.refl s

theorem takeDownstreamLost_calm (n : Nat) (b : Bool) : Calm s (takeDownstreamLost n b s) := by
  unfold takeDownstreamLost
  dsimp only
  split
  · refine Calm.pair ((returnOfferTo_calm s n).trans
      (calm_mapEntries _ _ id (setAdrift_dossier _ _ _) (setAdrift_waiting _ _ _))) ?_
    split <;> simp [Notice.isCalm]
  · exact Calm.quiet (CalmFrame.refl s)

theorem takePeerNews_calm (n : Nat) : Calm s (takePeerNews n s) := by
  unfold takePeerNews
  split
  · exact candidateSearch_calm s
  · exact Calm.quiet (CalmFrame.refl s)

/-! ## Rotor, feed and scanner -/

theorem setLabour_calm (b : Bool) : Calm s (setLabour b s) := by
  unfold setLabour
  split
  · exact Calm.quiet (CalmFrame.refl s)
  · exact Calm.pair (calm_onRotor s _) (by simp [Notice.isCalm])

theorem rotorLook_calm : Calm s (rotorLook s) := by
  unfold rotorLook
  split
  · split
    · exact Calm.quiet (CalmFrame.refl s)
    · exact Calm.tell (Calm.of_frame (calm_onRotor s _) (setLabour_calm _ _)) (by simp [Notice.isCalm])
  · split
    · exact Calm.tell (Calm.of_frame (calm_onRotor s _) (setLabour_calm _ _)) (by simp [Notice.isCalm])
    · exact Calm.quiet (CalmFrame.refl s)

theorem returnFeed_calm (e : Entry) : CalmFrame s (returnFeed e s) :=
  ((calm_onFeed s _).trans (requestState_calm _ _ _ _ id (fun _ => rfl) (by decide))).trans (calm_onFeed _ _)

theorem feedLook_calm : Calm s (feedLook s) := by
  unfold feedLook
  split
  · split
    · exact Calm.quiet (CalmFrame.refl s)
    · exact Calm.quiet (returnFeed_calm s _)
  · split
    · split
      · exact Calm.quiet ((requestState_calm s _ _ _ id (fun _ => rfl) (by decide)).trans (calm_onFeed _ _))
      · exact Calm.quiet (CalmFrame.refl s)
    · exact Calm.quiet (CalmFrame.refl s)

theorem scannerLook_calm (h : s.calm) : scannerLook s = quiet s := by
  unfold scannerLook
  rw [show s.scanner.round = none from h]

/-! ## Every calm notice, and the end of a calm command -/

theorem hand_calm (n : Notice) (h : Notice.isCalm n = true) (hc : s.calm) (hw : n = .assign → noneWaiting s) :
    Calm s (hand n s) := by
  cases n with
  | fact f => exact takeFact_calm s f
  | reassess => exact reassess_calm s
  | raise l => exact raiseLatch_calm s l
  | channelsHazard => exact channelsTakeHazard_calm s
  | assign =>
    have e : hand .assign s = quiet s := assignChannels_none s (hw rfl)
    rw [e]
    exact Calm.quiet (CalmFrame.refl s)
  | handoffHazard => exact handoffTakesHazard_calm s
  | search => exact candidateSearch_calm s
  | downstreamLost n b => exact takeDownstreamLost_calm s n b
  | peerNews n => exact takePeerNews_calm s n
  | scannerLook =>
    have e : hand .scannerLook s = quiet s := scannerLook_calm s hc
    rw [e]
    exact Calm.quiet (CalmFrame.refl s)
  | rotorLook => exact rotorLook_calm s
  | feedLook => exact feedLook_calm s
  | _ => simp [Notice.isCalm] at h

theorem closing_calm (r : Fx) : CalmFrame r.1 (r.closing s).1 :=
  Fx.closing_keeps (R := fun t => CalmFrame r.1 t) (fun e t h => h.trans (returnFeed_calm t e)) s r (CalmFrame.refl _)

theorem take_calm (n : Notice) (h : Notice.isCalm n = true) (hc : s.calm) (hw : n = .assign → noneWaiting s) :
    Calm s (take n s) := by
  have k := hand_calm s n h hc hw
  exact ⟨k.frame.trans (closing_calm s _), by rw [take, Fx.closing_notices]; exact k.notices⟩

end

/-- The hand-ons of a calm command keep `CalmFrame` from the command's own effect to its end. -/
theorem finish_calm {r : Fx} (hc : r.1.calm)
    (hn : ∀ n ∈ r.2, Notice.isCalm n = true ∧ (n = .assign → noneWaiting r.1)) : CalmFrame r.1 (finish r) := by
  refine (finish_keeps (C := fun n => Notice.isCalm n = true ∧ (n = .assign → noneWaiting r.1))
    (P := fun t => CalmFrame r.1 t) (fun n s hm h => ?_) hn (CalmFrame.refl _))
  have hs : s.calm := by rw [State.calm, h.scanner]; exact hc
  have k := take_calm s n hm.1 hs fun e => h.waiting (hm.2 e)
  exact ⟨h.trans k.frame, fun m hm => ⟨(k.notices m hm).1, fun e => absurd e (k.notices m hm).2⟩⟩

/-- A calm command's answer, FEED closed with its own effect, keeps `CalmFrame` from that effect on. -/
theorem done_calm {s : State} {r : Fx} (hc : r.1.calm)
    (hn : ∀ n ∈ r.2, Notice.isCalm n = true ∧ (n = .assign → noneWaiting r.1)) :
    ∃ t, done s r = .next t ∧ CalmFrame r.1 t := by
  have h := closing_calm s r
  refine ⟨_, rfl, h.trans (finish_calm ?_ ?_)⟩
  · rw [State.calm, h.scanner]; exact hc
  · rw [Fx.closing_notices]
    exact fun n hm => ⟨(hn n hm).1, fun e => h.waiting ((hn n hm).2 e)⟩

end Sys2Proof.Machine
end

