-- ==== Sys2Proof/Laws/Fire.lean ====
section
/-! SUPPORT. What the hand-ons of every command but the restore key leave alone: CONFIRMED zones and the FLOOD. -/
namespace Sys2Proof.Machine

theorem FireFrame.refl (s : State) : FireFrame s s where
  cfg := rfl
  zones _ h := ⟨h, rfl, rfl, rfl, rfl⟩
  persist _ _ _ _ h := h
  zoneLatched _ h := h
  flood h := ⟨h, rfl, rfl⟩

theorem FireFrame.trans {s t u : State} (h : FireFrame s t) (k : FireFrame t u) : FireFrame s u where
  cfg := k.cfg.trans h.cfg
  persist z p hp hz hn := k.persist z p (by rw [h.cfg]; exact hp) (h.zones z hz).1 (h.persist z p hp hz hn)
  zoneLatched z n := k.zoneLatched z (h.zoneLatched z n)
  zones z hz := by
    obtain ⟨a, b, c, d, e⟩ := h.zones z hz
    obtain ⟨a', b', c', d', e'⟩ := k.zones z a
    exact ⟨a', b'.trans b, c'.trans c, d'.trans d, e'.trans e⟩
  flood hf := by
    obtain ⟨a, b, c⟩ := h.flood hf
    obtain ⟨a', b', c'⟩ := k.flood a
    exact ⟨a', b'.trans b, c'.trans c⟩

/-- A change that touches neither the zones nor the chamber and loses no zone's latch. -/
theorem FireFrame.of_parts {s t : State} (ez : t.zones = s.zones) (ec : t.chamber = s.chamber) (ek : t.cfg = s.cfg)
    (hl : ∀ z : ZoneId, ZoneLatched s z → ZoneLatched t z) : FireFrame s t where
  cfg := ek
  zones z hz := by rw [ez]; exact ⟨hz, rfl, rfl, rfl, rfl⟩
  persist z p _ _ h := by rw [ez]; exact h
  zoneLatched := hl
  flood hf := by rw [ec]; exact ⟨hf, rfl, rfl⟩

/-- A change that touches none of the zones, the chamber, the evaluator and the configuration. -/
theorem FireFrame.of_only {bs : List Block} {s t : State} (h : OnlyTouches bs s t)
    (hb : ∀ b ∈ [Block.zones, .chamber, .cfg, .hazard], b ∉ bs) : FireFrame s t :=
  FireFrame.of_parts (h .zones (hb _ (by decide))) (h .chamber (hb _ (by decide))) (h .cfg (hb _ (by decide)))
    fun z n => by
      have e : t.hazard = s.hazard := h .hazard (hb _ (by decide))
      rw [ZoneLatched, e]; exact n

theorem CalmFrame.fire {s t : State} (h : CalmFrame s t) : FireFrame s t :=
  FireFrame.of_parts (h.outside .zones (by decide)) (h.outside .chamber (by decide)) (h.outside .cfg (by decide))
    h.zoneLatched

/-- A change that keeps `FireFrame` and hands on nothing of the restore key. -/
def FireSafe (s : State) (r : Fx) : Prop := FireFrame s r.1 ∧ ∀ n ∈ r.2, Notice.restores n = false

theorem FireSafe.quiet {s t : State} (h : FireFrame s t) : FireSafe s (Machine.quiet t) :=
  ⟨h, fun n hn => by simp [Machine.quiet] at hn⟩

theorem FireSafe.pair {s t : State} {ns : List Notice} (h : FireFrame s t) (hn : ∀ n ∈ ns, Notice.restores n = false) :
    FireSafe s (t, ns) := ⟨h, hn⟩

theorem FireSafe.of_calm {s : State} {r : Fx} (h : Calm s r) : FireSafe s r :=
  ⟨h.frame.fire, fun n hn => by
    have := (h.notices n hn).1
    cases n <;> simp_all [Notice.isCalm, Notice.restores]⟩

theorem FireSafe.of_frame {s t : State} {r : Fx} (h : FireFrame s t) (k : FireSafe t r) : FireSafe s r :=
  ⟨h.trans k.1, k.2⟩

theorem FireSafe.andThen {s : State} {r : Fx} {f : State → Fx} (h : FireSafe s r) (hf : ∀ t, FireSafe t (f t)) :
    FireSafe s (r.andThen f) := by
  refine ⟨h.1.trans (hf r.1).1, fun n hm => ?_⟩
  rcases List.mem_append.1 hm with hm | hm
  · exact h.2 n hm
  · exact (hf r.1).2 n hm

theorem FireSafe.tell {s : State} {r : Fx} {ns : List Notice} (h : FireSafe s r)
    (hn : ∀ n ∈ ns, Notice.restores n = false) : FireSafe s (r.tell ns) := by
  refine ⟨h.1, fun n hm => ?_⟩
  rcases List.mem_append.1 hm with hm | hm
  · exact h.2 n hm
  · exact hn n hm

theorem FireSafe.forEach {α : Type} {f : α → State → Fx} (hf : ∀ x t, FireSafe t (f x t)) :
    ∀ (xs : List α) (s : State), FireSafe s (forEach f xs s)
  | [], s => FireSafe.quiet (FireFrame.refl s)
  | x :: xs, s => FireSafe.andThen (hf x s) fun t => FireSafe.forEach hf xs t

section
variable (s : State)

/-! ## The hazard evaluator and the channels -/

theorem requestBurst_fire : FireFrame s (requestBurst s) := by
  unfold requestBurst
  split
  · exact FireFrame.of_only (bs := [.link]) (by intro b; cases b <;> simp [Block.Same, countLink]) (by decide)
  · exact FireFrame.refl s

theorem latchZone_fire (z : ZoneId) (p : PointId) : FireSafe s (latchZone z p s) := by
  unfold latchZone
  split
  · refine FireSafe.pair ?_ fun n hn => ?_
    · refine FireFrame.trans ?_ (requestBurst_fire _)
      refine FireFrame.trans ?_ (announce_calm _ _ _).fire
      refine ((calm_onHazard s _ fun y h => ⟨?_, ?_⟩).trans (reassess_calm _).frame).fire
      · simp only [State.onHazard_hazard, Fin.getElem_fin, Vector.getElem_set]
        split
        · rfl
        · exact h.1
      · simp only [State.onHazard_hazard]
        rw [modifyAt_getElem]
        split <;> exact h.2
    · rcases List.mem_cons.1 hn with rfl | hn
      · rfl
      · exact (FireSafe.of_calm (reassess_calm _)).2 n hn
  · exact FireSafe.quiet (FireFrame.refl s)

theorem releaseChannel_fire (c : ChannelId) : FireSafe s (releaseChannel c s) := by
  refine ⟨FireFrame.of_only (releaseChannel_custody s c).2.1 (by decide), fun n hn => ?_⟩
  simp only [releaseChannel, List.mem_cons, List.not_mem_nil, or_false] at hn
  rcases hn with rfl | rfl <;> rfl

theorem verdictRaises_fire (v : Verdict) (n : Notice) (h : n ∈ verdictRaises v) : Notice.restores n = false := by
  unfold verdictRaises at h
  split at h
  · simp only [List.mem_cons, List.not_mem_nil, or_false] at h; rw [h]; rfl
  · simp at h

theorem setVerdict_fire (c : ChannelId) (v : Verdict) : FireSafe s (setVerdict c v s) := by
  have hr : FireSafe s (recordVerdict c v s, verdictRaises v ++ [channelFact c (recordVerdict c v s)]) := by
    refine FireSafe.pair (FireFrame.of_only (recordVerdict_spec s c v).1 (by decide)) fun n hn => ?_
    rcases List.mem_append.1 hn with hn | hn
    · exact verdictRaises_fire v n hn
    · simp only [List.mem_cons, List.not_mem_nil, or_false] at hn; rw [hn]; rfl
  unfold setVerdict
  dsimp only
  split
  · exact hr
  · exact hr.andThen fun t => releaseChannel_fire t c

theorem connectCheck_fire (c : ChannelId) : FireSafe s (connectCheck c s) := by
  unfold connectCheck
  split
  · exact setVerdict_fire s c _
  · exact FireSafe.pair (FireFrame.of_only (changeChannel_only s c _) (by decide)) (by
      simp [channelFact, Notice.restores])

theorem assignOne_fire (c : ChannelId) : FireSafe s (assignOne c s) := by
  unfold assignOne
  split
  · next e _ _ =>
    dsimp only
    have h : FireFrame s (changeChannel c (takeToken e.pack.token)
        (requestState e.pack.token .waiting .inChannel (fun e => { e with channel := some c }) s)) :=
      (FireFrame.of_only (requestState_only s _ _ _ _) (by decide)).trans
        (FireFrame.of_only (changeChannel_only _ c _) (by decide))
    split
    · exact FireSafe.of_frame h (connectCheck_fire _ c)
    · exact FireSafe.quiet h
  · exact FireSafe.quiet (FireFrame.refl s)

theorem fireOne_fire (z : ZoneId) (c : ChannelId) : FireSafe s (fireOne z c s) := by
  unfold fireOne
  split
  · exact setVerdict_fire s c _
  · exact FireSafe.quiet (FireFrame.refl s)

/-! ## The point scanner -/

/-- The parts of the state that the scanner's operations change. -/
def scannerBlocks : List Block := [.loader, .points, .scanner, .hazard]

/-- A change of the scanner's: it stays within its parts of the state, and no zone's latch is lost. -/
structure ScannerStep (s t : State) : Prop where
  only : OnlyTouches scannerBlocks s t
  latched : ∀ z : ZoneId, ZoneLatched s z → ZoneLatched t z

theorem ScannerStep.refl (s : State) : ScannerStep s s := ⟨OnlyTouches.refl _ s, fun _ h => h⟩

theorem ScannerStep.trans {s t u : State} (h : ScannerStep s t) (k : ScannerStep t u) : ScannerStep s u :=
  ⟨h.only.trans k.only, fun z n => k.latched z (h.latched z n)⟩

/-- A change of the scanner's that hands on nothing of the restore key. -/
def ScannerOnly (s : State) (r : Fx) : Prop := ScannerStep s r.1 ∧ ∀ n ∈ r.2, Notice.restores n = false

theorem ScannerOnly.fire {s : State} {r : Fx} (h : ScannerOnly s r) : FireSafe s r :=
  ⟨FireFrame.of_parts (h.1.only .zones (by decide)) (h.1.only .chamber (by decide)) (h.1.only .cfg (by decide))
    h.1.latched, h.2⟩

theorem ScannerOnly.quiet {s t : State} (h : ScannerStep s t) : ScannerOnly s (Machine.quiet t) :=
  ⟨h, fun n hn => by simp [Machine.quiet] at hn⟩

theorem ScannerOnly.of_only {s t : State} {r : Fx} (h : ScannerStep s t) (k : ScannerOnly t r) :
    ScannerOnly s r := ⟨h.trans k.1, k.2⟩

theorem changePoint_only (p : PointId) (f : Point → Point) : ScannerStep s (changePoint p f s) :=
  ⟨by intro b; cases b <;> simp [scannerBlocks, Block.Same, changePoint], fun _ h => h⟩

theorem onScanner_only (f : Scanner → Scanner) : ScannerStep s (s.onScanner f) :=
  ⟨by intro b; cases b <;> simp [scannerBlocks, Block.Same], fun _ h => h⟩

theorem passState_only (p : PointId) (st : PointReport) : ScannerStep s (passState p st s) := by
  unfold passState flagPointAlarm
  dsimp only
  split
  · split
    · exact ⟨by intro b; cases b <;> simp [scannerBlocks, Block.Same, changePoint], fun _ h => h⟩
    · exact changePoint_only s p _
  · exact changePoint_only s p _

theorem refreshPoint_only (p : PointId) : ScannerOnly s (refreshPoint p s) := by
  unfold refreshPoint
  dsimp only
  split
  · exact ScannerOnly.quiet (ScannerStep.refl s)
  · split
    · exact ⟨(changePoint_only s p _).trans (passState_only _ _ _), by simp [pointTold, Notice.restores]⟩
    · exact ScannerOnly.quiet (changePoint_only s p _)

theorem setPart_only (part : TestPart) (p : PointId) : ScannerStep s (setPart part p s) :=
  onScanner_only s _

theorem lampOn_only (p : PointId) : ScannerOnly s (lampOn p s) := by
  unfold lampOn
  dsimp only
  exact ScannerOnly.of_only ((setPart_only s _ p).trans ((onScanner_only _ _).trans (changePoint_only _ p _)))
    (refreshPoint_only _ p)

theorem endRound_only (b : Bool) : ScannerStep s (endRound b s) := by
  unfold endRound
  dsimp only
  split
  · exact ⟨by intro b; cases b <;> simp [scannerBlocks, Block.Same], fun _ h => h⟩
  · exact (onScanner_only s _).trans (onScanner_only _ _)

theorem roundOver_only (b : Bool) : ∀ (ps : List PointId) (s : State), ScannerOnly s (roundOver b ps s)
  | [], s => ScannerOnly.quiet (endRound_only s b)
  | p :: ps, s => by
    unfold roundOver
    split
    · exact roundOver_only b ps s
    · split
      · exact ScannerOnly.of_only (changePoint_only s p _) (roundOver_only b ps _)
      · split
        · exact ScannerOnly.quiet (setPart_only s _ p)
        · split
          · exact ScannerOnly.quiet (setPart_only s _ p)
          · exact lampOn_only s p

theorem lookAgain_only (r : Round) : ScannerOnly s (lookAgain r s) := by
  unfold lookAgain
  generalize (if r.startup = true then _ else _ : Bool) = b
  split
  · exact ScannerOnly.quiet (ScannerStep.refl s)
  · split
    · exact ⟨(changePoint_only s _ _).trans (setPart_only _ _ _), by simp [Notice.restores]⟩
    · exact lampOn_only s _

theorem abortTest_only (p : PointId) : ScannerStep s (abortTest p s) := by
  unfold abortTest lampOff
  dsimp only
  exact (setPart_only s _ p).trans ((onScanner_only _ _).trans ((onScanner_only _ _).trans (changePoint_only _ p _)))

theorem scannerLook_only : ScannerOnly s (scannerLook s) := by
  have none : ScannerOnly s (quiet s) := ScannerOnly.quiet (ScannerStep.refl s)
  unfold scannerLook
  split
  · split
    · split
      · exact lookAgain_only s _
      · split
        · exact ScannerOnly.quiet (abortTest_only s _)
        · exact none
      · exact none
      · exact none
    · exact none
  · exact none

theorem roundFrom_only (n : Nat) : ScannerOnly s (roundFrom n s) := by
  unfold roundFrom
  split
  · exact roundOver_only _ _ s
  · exact ScannerOnly.quiet (ScannerStep.refl s)

theorem roundAgain_only : ScannerOnly s (roundAgain s) := by
  unfold roundAgain
  split
  · exact ScannerOnly.of_only (setPart_only s _ _) (lookAgain_only _ _)
  · exact ScannerOnly.quiet (ScannerStep.refl s)

/-! ## Zone logic -/

theorem changeZone_getElem (z y : ZoneId) (f : Zone → Zone) :
    (changeZone z f s).zones.zones[y] = if z = y then f s.zones.zones[y] else s.zones.zones[y] := modifyAt_getElem _ _ _ _

/-- A zone that is not CONFIRMED changed. -/
theorem changeZone_fire (z : ZoneId) (f : Zone → Zone) (h : s.zones.zones[z].status ≠ .confirmed) :
    FireFrame s (changeZone z f s) := by
  refine ⟨rfl, fun y hy => ?_, fun _ _ _ _ hn => hn, fun _ hn => hn, fun hf => ⟨hf, rfl, rfl⟩⟩
  rw [changeZone_getElem]
  split
  · next e => subst e; exact absurd hy h
  · exact ⟨hy, rfl, rfl, rfl, rfl⟩

/-- The members' states or the persistence timers changed, no timer of a CONFIRMED zone started. -/
theorem onZones_fire (f : ZoneLogic → ZoneLogic) (h : (f s.zones).zones = s.zones.zones)
    (hp : ∀ (z : ZoneId) (p : PointId), zoneOfNumber s.cfg.points[p].zone = some z →
      s.zones.zones[z].status = .confirmed → s.zones.persist[p] = none → (f s.zones).persist[p] = none) :
    FireFrame s (s.onZones f) := by
  refine ⟨rfl, fun y hy => ?_, hp, fun _ hn => hn, fun hf => ⟨hf, rfl, rfl⟩⟩
  simp only [State.onZones_zones, h, and_self, and_true]
  exact hy

theorem stopPersistence_fire (z : ZoneId) : FireFrame s (stopPersistence z s) := by
  refine onZones_fire s _ rfl fun _ p _ _ h => ?_
  rw [tabulate_getElem_fin]
  split
  · rfl
  · exact h

theorem confirmZone_fire (z : ZoneId) (p : PointId) (b : Basis) (h : s.zones.zones[z].status ≠ .confirmed) :
    FireSafe s (confirmZone z p b s) :=
  FireSafe.pair ((changeZone_fire s z _ h).trans (stopPersistence_fire _ _)) (by simp [zoneChanged, Notice.restores])

theorem enterPending_fire (z : ZoneId) (p : PointId) (h : s.zones.zones[z].status ≠ .confirmed) :
    FireSafe s (enterPending z p s) := by
  have hf (t : State) : FireFrame t (flagZonePending t) := by
    unfold flagZonePending
    split
    · exact (calm_onHazard_flags _ _ rfl rfl).fire
    · exact FireFrame.refl _
  exact FireSafe.pair ((changeZone_fire s z _ h).trans (hf _)) (by simp [zoneChanged, Notice.restores])

theorem workHealth_fire (z : ZoneId) : FireFrame s (workHealth z s) := by
  refine ⟨rfl, fun y hy => ?_, fun _ _ _ _ hn => hn, fun _ hn => hn, fun hf => ⟨hf, rfl, rfl⟩⟩
  unfold workHealth
  rw [changeZone_getElem]
  split
  · exact ⟨hy, rfl, rfl, rfl, rfl⟩
  · exact ⟨hy, rfl, rfl, rfl, rfl⟩

theorem workFault_fire (z : ZoneId) : FireSafe s (workFault z s) := by
  unfold workFault
  dsimp only
  split
  · exact FireSafe.quiet (FireFrame.refl s)
  · split
    · next h =>
      refine FireSafe.pair (changeZone_fire s z _ fun e => ?_) (by simp [zoneChanged, Notice.restores])
      rw [e] at h
      exact absurd h.1 (by decide)
    · split
      · next h =>
        refine FireSafe.pair (changeZone_fire s z _ fun e => ?_) (by simp [zoneChanged, Notice.restores])
        rw [e] at h
        exact absurd h.1 (by decide)
      · exact FireSafe.quiet (FireFrame.refl s)

theorem workPersistence_fire (z : ZoneId) (p : PointId) (st : PointReport)
    (hz : zoneOfNumber s.cfg.points[p].zone = some z) : FireFrame s (workPersistence z p st s) := by
  unfold workPersistence
  dsimp only
  split
  · split
    · next h =>
      refine onZones_fire s _ rfl fun y q hq hy hn => ?_
      simp only [Fin.getElem_fin, Vector.getElem_set]
      split
      · next e =>
        obtain rfl : p = q := Fin.ext e
        obtain rfl : z = y := by rw [hz] at hq; exact Option.some.inj hq
        rw [hy] at h
        exact absurd h.2 (by decide)
      · exact hn
    · exact FireFrame.refl s
  · refine onZones_fire s _ rfl fun _ q _ _ hn => ?_
    simp only [Fin.getElem_fin, Vector.getElem_set]
    split
    · rfl
    · exact hn

theorem judgeAlarm_fire (z : ZoneId) (p : PointId) : FireSafe s (judgeAlarm z p s) := by
  unfold judgeAlarm
  dsimp only
  split
  · next h =>
    split
    · exact confirmZone_fire s z p _ (by rw [h]; decide)
    · exact enterPending_fire s z p (by rw [h]; decide)
  · next h =>
    split
    · exact confirmZone_fire s z p _ (by rw [h]; decide)
    · split
      · exact FireSafe.quiet (FireFrame.refl s)
      · exact confirmZone_fire s z p _ (by rw [h]; decide)
  · exact FireSafe.quiet (FireFrame.refl s)
  · exact FireSafe.quiet (FireFrame.refl s)

theorem judgeOther_fire (z : ZoneId) (p : PointId) : FireSafe s (judgeOther z p s) := by
  unfold judgeOther
  dsimp only
  split
  · next h _ _ => exact confirmZone_fire s z _ _ (by rw [h]; decide)
  · next h _ _ => exact confirmZone_fire s z _ _ (by rw [h]; decide)
  · split
    · refine FireSafe.pair (changeZone_fire s z _ ?_) (by simp [zoneChanged, Notice.restores])
      simp_all
    · exact FireSafe.quiet (FireFrame.refl s)
  · exact FireSafe.quiet (FireFrame.refl s)

theorem takePointState_fire (p : PointId) (st : PointReport) : FireSafe s (takePointState p st s) := by
  unfold takePointState
  split
  · split
    · next z hz =>
      refine FireSafe.of_frame ((onZones_fire s _ rfl fun _ _ _ _ h => h).trans (workHealth_fire (recordMember p st s) z)) ?_
      refine FireSafe.andThen ?_ fun t => ?_
      · have k := workFault_fire (workHealth z (recordMember p st s)) z
        exact ⟨k.1.trans (workPersistence_fire _ _ _ _ (by rw [k.1.cfg]; exact hz)), k.2⟩
      · split
        · exact judgeAlarm_fire t _ _
        · exact judgeOther_fire t _ _
    · exact FireSafe.quiet (FireFrame.refl s)
  · exact FireSafe.quiet (FireFrame.refl s)

/-! ## The chamber -/

/-- A change of the chamber that keeps the FLOOD. -/
theorem onChamber_fire (f : Chamber → Chamber)
    (h : s.chamber.state = .flood →
      (f s.chamber).state = .flood ∧ (f s.chamber).purgeOpen = s.chamber.purgeOpen
        ∧ (f s.chamber).floodOpen = s.chamber.floodOpen) : FireFrame s (s.onChamber f) :=
  ⟨rfl, fun _ hz => ⟨hz, rfl, rfl, rfl, rfl⟩, fun _ _ _ _ hn => hn, fun _ hn => hn, h⟩

theorem reportOxygen_fire : FireSafe s (reportOxygen s) := by
  unfold reportOxygen
  dsimp only
  split
  · exact FireSafe.quiet (FireFrame.refl s)
  · exact FireSafe.pair (onChamber_fire s _ fun h => ⟨h, rfl, rfl⟩) (by simp [Notice.restores])

theorem workOxygen_fire : FireSafe s (workOxygen s) := by
  unfold workOxygen
  dsimp only
  split
  · refine FireSafe.tell (FireSafe.of_frame ?_ (reportOxygen_fire _)) ?_
    · refine FireFrame.trans (onChamber_fire s _ fun h => ?_) (calm_onFeed _ _).fire
      simp only [oxygenStep, h, and_self]
    · split <;> simp [atmosphereTold, Notice.restores]
  · exact FireSafe.quiet (FireFrame.refl s)

theorem chamberTakesConfirmed_fire (z : ZoneId) : FireSafe s (chamberTakesConfirmed z s) := by
  unfold chamberTakesConfirmed
  dsimp only
  have h₀ := onChamber_fire s (fun c => { c with confirmed := c.confirmed.set z true }) fun h => ⟨h, rfl, rfl⟩
  have told : ∀ n ∈ atmosphereTold, Notice.restores n = false := by simp [atmosphereTold, Notice.restores]
  split
  · split
    case h_4 | h_5 => exact FireSafe.quiet h₀
    all_goals
      next h =>
      refine FireSafe.tell (FireSafe.of_frame (h₀.trans (onChamber_fire _ _ fun e => ?_)) (reportOxygen_fire _)) told
      rw [e] at h
      cases h
  · exact FireSafe.quiet (FireFrame.refl s)

/-! ## Every notice but the restore key's -/

theorem hand_fire (n : Notice) (h : Notice.restores n = false) : FireSafe s (hand n s) := by
  cases n with
  | fact f => exact .of_calm (takeFact_calm s f)
  | reassess => exact .of_calm (reassess_calm s)
  | raise l => exact .of_calm (raiseLatch_calm s l)
  | zoneConfirmed z p => exact latchZone_fire s z p
  | channelsHazard => exact .of_calm (channelsTakeHazard_calm s)
  | channelsFire z =>
    change FireSafe s (channelsTakeFire z s)
    unfold channelsTakeFire
    split
    · exact FireSafe.forEach (fun c t => fireOne_fire t z c) _ s
    · exact FireSafe.quiet (FireFrame.refl s)
  | assign =>
    change FireSafe s (assignChannels s)
    unfold assignChannels
    split
    · exact FireSafe.forEach (fun c t => assignOne_fire t c) _ s
    · exact FireSafe.quiet (FireFrame.refl s)
  | handoffHazard => exact .of_calm (handoffTakesHazard_calm s)
  | search => exact .of_calm (candidateSearch_calm s)
  | downstreamLost n b => exact .of_calm (takeDownstreamLost_calm s n b)
  | peerNews n => exact .of_calm (takePeerNews_calm s n)
  | scannerLook => exact (scannerLook_only s).fire
  | roundFrom n => exact (roundFrom_only s n).fire
  | roundAgain => exact (roundAgain_only s).fire
  | zonePoint p st => exact takePointState_fire s p st
  | chamberConfirmed z => exact chamberTakesConfirmed_fire s z
  | oxygen => exact workOxygen_fire s
  | rotorLook => exact .of_calm (rotorLook_calm s)
  | feedLook => exact .of_calm (feedLook_calm s)
  | zoneCleared _ | zoneRestore | chamberCleared _ | chamberRestore => simp [Notice.restores] at h

theorem closing_fire (r : Fx) : FireFrame r.1 (r.closing s).1 := (closing_calm s r).fire

theorem take_fire (n : Notice) (h : Notice.restores n = false) : FireSafe s (take n s) := by
  have k := hand_fire s n h
  exact ⟨k.1.trans (closing_fire s _), by rw [take, Fx.closing_notices]; exact k.2⟩

end

/-- The hand-ons of every command but the restore key keep CONFIRMED zones and the FLOOD. -/
theorem finish_fire {r : Fx} (hn : ∀ n ∈ r.2, Notice.restores n = false) : FireFrame r.1 (finish r) := by
  refine finish_keeps (C := fun n => Notice.restores n = false) (P := fun t => FireFrame r.1 t) (fun n s hm h => ?_) hn
    (FireFrame.refl _)
  have k := take_fire s n hm
  exact ⟨h.trans k.1, k.2⟩

/-- The answer of every command but the restore key, FEED closed with its own effect, keeps CONFIRMED zones and the FLOOD
of that effect. -/
theorem done_fire {s : State} {r : Fx} (hn : ∀ n ∈ r.2, Notice.restores n = false) :
    ∃ t, done s r = .next t ∧ FireFrame r.1 t :=
  ⟨_, rfl, (closing_fire s r).trans (finish_fire (by rw [Fx.closing_notices]; exact hn))⟩

end Sys2Proof.Machine
end

