-- ==== Sys2Proof/Laws/Hazard.lean ====
section
/-! SUPPORT. What the hazard evaluator does when it takes the facts present, and what the first notice of a command
leaves at the command's end: a raised latch, the LINE_STOP cause. -/
namespace Sys2Proof.Machine

section
variable (s : State)

/-- Announcing an activation leaves every hazard, output, cause and fact of the evaluator alone. -/
theorem announce_hazard (c : Cause) (place : Nat × Nat) :
    (announce c place s).hazard = { s.hazard with alarmsQueued := s.hazard.alarmsQueued.bump } := by
  have h (p : Payload) : (queueAlarm p s).hazard = s.hazard := by
    unfold queueAlarm
    split <;> rfl
  simp only [announce, markEntries, State.onCustody_hazard, State.onHazard_hazard, h]

/-- The announcements of one reassessment leave the causes, the hazards and the outputs as they stand. -/
theorem announceAll_hazard : ∀ (cs : List Cause) (s : State),
    ∃ k, (cs.foldl (fun s c => announce c (alarmPlace s c) s) s).hazard = { s.hazard with alarmsQueued := k }
  | [], _ => ⟨_, rfl⟩
  | c :: cs, s => by
    obtain ⟨k, hk⟩ := announceAll_hazard cs (announce c (alarmPlace s c) s)
    refine ⟨k, ?_⟩
    rw [List.foldl_cons, hk, announce_hazard]

/-- R120, R125: in RUN the evaluator's causes, hazards and outputs are worked out from the facts present. -/
theorem reassess_hazard (h : s.running) :
    ∃ k, (reassess s).1.hazard =
      { (setHazards (tabulate fun i => stepCause s (causeAt i) s.hazard.causes[i]) s).hazard with alarmsQueued := k } := by
  unfold reassess
  rw [if_neg (not_not_intro h)]
  exact announceAll_hazard _ _

/-- In RUN a reassessment leaves every cause active exactly while its condition holds. -/
theorem reassess_active (h : s.running) (c : Cause) :
    (reassess s).1.hazard.causes[Cause.index c].active = condition s c
      ∧ (reassess s).1.hazard.causes[Cause.index c].latch = s.hazard.causes[Cause.index c].latch := by
  obtain ⟨k, e⟩ := reassess_hazard s h
  have e' : (reassess s).1.hazard.causes = tabulate fun i => stepCause s (causeAt i) s.hazard.causes[i] := by rw [e]; rfl
  simp only [e']
  rw [steppedCauses_getElem]
  exact ⟨stepCause_active _ _ _, stepCause_latch _ _ _⟩

/-- In RUN a raising event leaves its cause latched and active (R116). -/
theorem raiseLatch_latched (h : s.running) (l : Latch) : Latched (raiseLatch l s).1 l := by
  unfold raiseLatch
  rw [if_pos h]
  generalize hu : (if l = .custody then flagDiscrepancy s else s) = u
  have hr : u.running := by
    subst hu
    unfold flagDiscrepancy
    rw [if_pos h]
    split
    · exact h
    · exact h
  have hl : (setLatch l.cause true u).hazard.causes[Cause.index l.cause].latch = true := by
    rw [setLatch_getElem]; simp
  obtain ⟨a, b⟩ := reassess_active (setLatch l.cause true u) hr l.cause
  exact ⟨b.trans hl, a.trans ((condition_latch _ l).trans hl)⟩

/-- In RUN a reassessment leaves LINE_STOP active exactly while the stop hold timer runs (R117). -/
theorem reassess_lineStop (h : s.running) : LineStopLaw (reassess s).1 := by
  unfold LineStopLaw
  rw [(reassess_active s h .lineStop).1, (reassess_frame s).1.stopHold]
  rfl

end

/-! ## The first notice of a command -/

theorem settle_frame (fuel : Nat) (now late : List Notice) (s : State) : HandOnFrame s (settle fuel now late s) :=
  settle_keeps (C := fun _ => True) (P := fun t => HandOnFrame s t)
    (fun n u _ h => ⟨h.trans (take_frame u n), fun _ _ => trivial⟩) fuel now late s (fun _ _ => trivial)
    (fun _ _ => trivial) (HandOnFrame.refl s)

/-- The end of a command whose first notice is taken at once. -/
theorem finish_cons {s : State} {n : Notice} {ns : List Notice} (h : n.later = false) :
    ∃ now late, finish (s, n :: ns) = settle 9999 now late (take n s).1 := by
  refine ⟨promptly (take n s).2 ++ promptly ns, afterwards (n :: ns) ++ afterwards (take n s).2, ?_⟩
  have e : promptly (n :: ns) = n :: promptly ns := List.filter_cons_of_pos (by simp [h])
  unfold finish
  simp only [e]
  rfl

/-- From the first notice on, the end of a command keeps `HandOnFrame`. -/
theorem finish_cons_frame {s : State} {n : Notice} {ns : List Notice} (h : n.later = false) :
    HandOnFrame (hand n s).1 (finish (s, n :: ns)) := by
  obtain ⟨now, late, e⟩ := finish_cons (s := s) (ns := ns) h
  rw [e]
  exact (closing_frame s _).trans (settle_frame _ _ _ _)

/-- A command in RUN whose first notice is a raising event ends with its cause latched and active (R116). -/
theorem finish_latched {s : State} {l : Latch} {ns : List Notice} (h : s.running) :
    Latched (finish (s, .raise l :: ns)) l :=
  (finish_cons_frame (n := .raise l) rfl).latched l (raiseLatch_latched s h l)

/-- The answer of a command in RUN whose own effect's first notice is a raising event: its cause is latched and active, and
the effect stands but for what hand-ons change. -/
theorem done_latched {s u : State} {l : Latch} {ns : List Notice} (h : u.running) :
    ∃ t, done s (u, .raise l :: ns) = .next t ∧ HandOnFrame u t ∧ Latched t l := by
  have k := closing_frame s (u, .raise l :: ns)
  have e : Fx.closing s (u, .raise l :: ns) = ((Fx.closing s (u, .raise l :: ns)).1, .raise l :: ns) :=
    Prod.ext rfl (Fx.closing_notices _ _)
  refine ⟨_, rfl, k.trans (finish_frame _), ?_⟩
  rw [e]
  refine finish_latched ?_
  have c : (Fx.closing s (u, .raise l :: ns)).1.loader = u.loader := (closing_calm s _).outside .loader (by decide)
  rw [State.running, c]
  exact h

end Sys2Proof.Machine
end

