-- ==== Sys2Proof/Tests/Slice0.lean ====
section
/-! SUPPORT. Checks of the model: ill-formed commands refused, a few results worked out by hand from the spec's tables, and
for every statement with hypotheses a state that meets them (`witness_<statement>`, one part a clause). -/
namespace Sys2Proof.Tests
open Sys2Proof Sys2Proof.Machine

/-! ## States -/

/-- A station in RUN, number 2, of a role. -/
def at_ (r : Role) : State :=
  { State.reset with loader := { Loader.reset with held := false, phase := .run, own := 2 },
                     cfg := { Config.blank with role := r },
                     link := { Link.reset with on := true, state := .idle } }

/-- A pack record with this serial. -/
def pack (n : Nat) : PackRecord :=
  { token := ⟨3, n⟩, cls := .nmc, damaged := false, hops := 0, summary := none, marks := [], overflow := false,
    orphan := false }

/-- A discharged summary. -/
def summary : Summary :=
  { verdict := .discharged, energy := 1, charge := 2, restVolts := 100, rebounds := 0, peak := 250, station := 4,
    clipped := false, netIn := false }

/-- An entry in a state. -/
def entry (n : Nat) (st : EntryState) : Entry :=
  { pack := pack n, state := st, entered := 0, channel := none, refusal := none, target := 5, adrift := none,
    restart := false }

/-- The custody list set. -/
def holding (es : List Entry) (s : State) : State := { s with custody := { s.custody with list := es } }

/-- A telegram from station 5 to this station at the head of the receive queue. -/
def hearing (p : Payload) (s : State) : State := { s with link := { s.link with rx := [⟨5, 2, p⟩] } }

/-- Every channel as given, with every CONN input at a level. -/
def channelsAs (c : Channel) (conn : Bool) (s : State) : State :=
  { s with channels := Vector.replicate 4 c, pins := { s.pins with conn := Vector.replicate 4 ⟨conn, conn⟩ } }

/-- A channel in a state, holding the token of `pack 1`. -/
def channelIn (st : ChannelState) : Channel := { Channel.reset with state := st, token := some ⟨3, 1⟩ }

/-- Every point configured so. -/
def pointsAs (k : PointCfg) (s : State) : State := { s with cfg := { s.cfg with points := Vector.replicate 12 k } }

/-- An enabled point with the thresholds 100 and 200 and hysteresis 10, in zone 1. -/
def heatPoint : PointCfg :=
  { kind := .heat, zone := 1, mode := .absolute, edge := .rising, low := -400, high := 2000, warn := 100, alarm := 200,
    hyst := 10, span := 1 }

/-- A rise of an input that is low. -/
def up : List Bool := [true, true]

/-- A fall of an input that is high. -/
def down : List Bool := [false, false]

/-- The state that a command answers, or the one it was given. -/
def after (c : Instr) (s : State) : State :=
  match exec c s with
  | .next t => t
  | _ => s

/-! ## Well-formedness -/

theorem test_wf_refuses_short_image : Instr.wf (.imageReadAttempt []) = false := by decide
theorem test_wf_refuses_empty_runs :
    (Instr.wf (.joinCompletion [] (Vector.replicate 8 0)) || Instr.wf (.stopBurstDetected []) || Instr.wf (.linkIdle [])) = false := by decide
theorem test_wf_refuses_volts : Instr.wf (.baselineEnd (Vector.replicate 4 65536)) = false := by decide
theorem test_wf_refuses_no_samples :
    (Instr.wf (.entryRise [] [0] [false]) || Instr.wf (.entryRise up [] [false]) || Instr.wf (.entryRise up [0] [])
      || Instr.wf (.resetRelease ⟨[], []⟩) || Instr.wf (.removeRise []) || Instr.wf (.throatPulse [])
      || Instr.wf (.restoreRise []) || Instr.wf (.connFall 0 []) || Instr.wf (.pulseEdge 0 [])
      || Instr.wf (.rotorPulse []) || Instr.wf (.connRise 0 [] 0)) = false := by decide
theorem test_wf_refuses_connect_volts : Instr.wf (.connRise 0 up 65536) = false := by decide
theorem test_wf_refuses_samples_out_of_range :
    (Instr.wf (.measurementSample 0 65536 0 0) || Instr.wf (.measurementSample 0 0 32768 0)
      || Instr.wf (.measurementSample 0 0 0 (-32769))) = false := by decide
theorem test_wf_refuses_reading : Instr.wf (.pointScan 0 65536) = false := by decide
theorem test_wf_refuses_no_bit_times : Instr.wf (.stopBurstEnd 0) = false := by decide
theorem test_wf_refuses_token : (Instr.wf (.adriftExpiry ⟨0, 1⟩) || Instr.wf (.adriftExpiry ⟨1, 0⟩)
    || Instr.wf (.adriftExpiry ⟨32, 1⟩) || Instr.wf (.adriftExpiry ⟨1, 16777216⟩)) = false := by decide
theorem test_wf_refuses_no_read_back :
    (Instr.wf (.telegramSent []) || Instr.wf (.arbitrationLost []) || Instr.wf (.bitError [])) = false := by decide
theorem test_wf_refuses_frames : (Instr.wf (.frameReceived (List.replicate 5 0))
    || Instr.wf (.frameReceived (List.replicate 31 0)) || Instr.wf (.frameError ⟨[], []⟩)
    || Instr.wf (.frameError ⟨List.replicate 31 0, []⟩) || Instr.wf (.frameError ⟨[0], List.replicate 17 false⟩)) = false := by decide

/-! ## Results worked out by hand -/

/-- R161: byte 0x55 has four ones, so even parity 0: start 0, 01010101, parity 0, stop 1. -/
theorem test_character : charOf 0x55 = 0b00101010101#11 := by decide

/-- R162: the published check value of this CRC over the digits 1 to 9. -/
theorem test_crc : crc16 [0x31, 0x32, 0x33, 0x34, 0x35, 0x36, 0x37, 0x38, 0x39] = 0x29B1 := by decide +kernel

/-- Table 38: an ACCEPT of token 3/5 from station 2 to station 7: class 1, origin 2: 01 00010 0. -/
theorem test_accept_bytes :
    telegramBytes ⟨2, 7, .accept ⟨3, 5⟩⟩ = [0x44, 0x11, 0x07, 0x04, 0x03, 0x00, 0x00, 0x05] := by decide

/-- Table 38: a QUERY from station 31 to station 2 for item 3, index 0, part 1: class 3. -/
theorem test_query_reads : readTelegram [0xFE, 0x30, 0x02, 0x03, 0x03, 0x00, 0x01] = some ⟨31, 2, .query 3 0 1⟩ := by
  decide

/-- R195: a class that does not agree with the kind fails the form check. -/
theorem test_class_must_agree : readTelegram [0x3E, 0x30, 0x02, 0x03, 0x03, 0x00, 0x01] = none := by decide

/-- R70: half-way between T_knee 400 and T_cut 600 a limit of 100 W is 50 W. -/
theorem test_power_limit : powerLimit 100 400 600 500 = 50000 := by decide

/-- R68, R70: the CHANNEL answer ends with that limit, 50,000 mW in 4 bytes after the 124 of Table 16, R78 and R66. -/
theorem test_channel_reports_limit :
    (channelFields { Config.blank with pMax := 100, tKnee := 400, tCut := 600 } { Channel.reset with temp := 500 }).drop 124
      = [0x00, 0x00, 0xC3, 0x50] := by decide +kernel

/-- R72, R73: 1000 codes (20 V) on 400 mΩ are 1,000,000 mW; 250 W of it is a duty of 256/1024. -/
theorem test_duty : dutyOf 250000 (fullPower 1000 400) 10 = 256 := by decide

/-- R11: an intake gives the first serial to the first pack. -/
theorem test_intake : (after (.entryRise up [1, 1] [false]) (at_ .intake)).custody.list.map (·.pack.token) = [⟨2, 1⟩] := by
  decide +kernel

/-- R13: a transfer station makes an orphan of it. -/
theorem test_orphan :
    (after (.entryRise up [1, 1] [false]) (at_ .transfer)).custody.list.map (·.pack.token) = [⟨2, 8388608⟩] := by
  decide +kernel

/-- R1: one sample is no rise. -/
theorem test_one_sample : (after (.entryRise [true] [1] [false]) (at_ .intake)).custody.list = [] := by decide

/-- R1, R4: the class is read at the filtered levels: pin 0 has two samples high, pin 1 one. -/
theorem test_filtered_class :
    (after (.entryRise up [1, 3] [false]) (at_ .intake)).custody.list.map (·.pack.cls) = [PackClass.ofPins 1] := by
  decide +kernel

/-- R5: a serial held in another station's token is passed over. -/
theorem test_serial_of_another_station :
    (after (.entryRise up [1, 1] [false]) (holding [entry 1 .ready] (at_ .intake))).custody.list.map (·.pack.token)
      = [⟨3, 1⟩, ⟨2, 2⟩] := by decide +kernel

/-- R46: an expiry that comes when its timer has been started again changes nothing. -/
theorem test_stale_expiry :
    let s := { at_ .transfer with handoff := { Handoff.reset with offer := some ⟨⟨3, 1⟩, 5⟩, reply := some 200 } }
    after .replyTimerExpiry s = s := by decide +kernel

/-- R31: an OFFER at a station with its expectation open is refused BUSY. -/
theorem test_busy :
    (after .offerReceived (hearing (.offer (pack 1))
      { at_ .transfer with handoff := { Handoff.reset with expect := some ⟨pack 9, 5⟩ } })).link.custody
      = [⟨⟨2, 5, .refuse ⟨3, 1⟩ .busy⟩, 0⟩] := by decide +kernel

/-- R37: a late ACCEPT is answered WITHDRAW. -/
theorem test_late_accept :
    (after .acceptReceived (hearing (.accept ⟨3, 1⟩) (at_ .transfer))).link.custody
      = [⟨⟨2, 5, .withdraw ⟨3, 1⟩⟩, 0⟩] := by decide +kernel

/-- R77: a rest window of 100, 100 and 101 gives 100. -/
theorem test_rest_voltage : restVoltage 0 [100, 100, 101] = 100 := by decide

/-- R179: TURN exchanges the banks. -/
theorem test_turn : (after .turn (hearing (.query 11 0 0) (at_ .transfer))).tally.filling = .b := by decide +kernel

/-- R182, R184: a TURN whose index names the filling bank is answered NONE with the held bank, one above 2 NONE and nothing;
neither is made. -/
theorem test_turn_not_made :
    let ask := fun index => after .turn (hearing (.query 11 index 0) (at_ .transfer))
    let answer := fun index => (ask index).link.report
    answer 1 = some ⟨⟨2, 5, .report 11 1 false 0 (heldBankByte Tally.reset)⟩, 0⟩
      ∧ answer 3 = some ⟨⟨2, 5, .report 11 3 false 0 []⟩, 0⟩ ∧ (ask 3).tally.turns = 0 := by decide +kernel

/-- R151: 254 then 1 is a gap of 3, two telegrams missed. -/
theorem test_gap : sequenceGap 254 1 = 3 := by decide

/-- R110: a CONFIRMED zone with no member in ALARM and one healthy goes to QUIET. -/
theorem test_restore_zone :
    let s := at_ .transfer
    let z : Zone := { Zone.reset with status := .confirmed, healthy := 1 }
    (restoreZone 0 { s with zones := { s.zones with zones := s.zones.zones.set 0 z } }).1.zones.zones[0].status = .quiet := by
  decide +kernel

/-- R173: a second run of 16 dominant bits after a detected burst is a burst, the first run going on is none. -/
theorem test_second_burst :
    reachesBurst 16 (true :: List.replicate 16 false) = true ∧ reachesBurst 16 [] = false ∧ reachesBurst 16 [false] = false := by
  decide

/-- R166: eleven dominant bits read for eleven recessive ones: judged when the line is next read recessive, and at the
16th dominant bit a stop burst. -/
theorem test_wait_for_recessive :
    judgeMismatch (List.replicate 11 true) (true :: List.replicate 8 false) = .past
      ∧ judgeMismatch (List.replicate 11 false ++ [true]) (List.replicate 12 false) = .waiting
      ∧ judgeMismatch (List.replicate 11 false ++ [true]) (List.replicate 14 false ++ [true]) = .recessive
      ∧ judgeMismatch (List.replicate 11 false ++ [true]) (List.replicate 16 false) = .burst := by decide

/-- R167: a character of eleven dominant bits: five bits more are a stop burst, a recessive one before them a framing error. -/
theorem test_stop_bit_wait :
    let s := at_ .transfer
    (after (.frameError ⟨[0], List.replicate 5 false⟩) s).link.counts.burstsDetected = ⟨1, 1⟩
      ∧ (after (.frameError ⟨[0], [false, true]⟩) s).link.counts.framing = ⟨1, 1⟩ ∧ after (.frameError ⟨[0], [false]⟩) s = s := by
  decide +kernel

/-- A station in JOIN with HEAT points, TEST1 naming point 1. -/
def joiningWithTest : State :=
  let s := pointsAs heatPoint (at_ .transfer)
  { s with loader := { s.loader with phase := .join }, link := { Link.reset with on := true },
           cfg := { s.cfg with testLines := (Vector.replicate 4 0).set 0 1 } }

/-- R190, R93: the first scan at TEST entry comes before the round, so a point out of band there is SKIPPED. -/
theorem test_first_scan_before_round :
    (after (.joinCompletion (List.replicate 12 true) (Vector.replicate 8 2001)) joiningWithTest).points[0].result
      = some .skipped := by decide +kernel

/-! ## Witnesses: the block, resets, start-up -/

theorem witness_StepRunsFrontCommand :
    ∃ (c : Instr) (rest : List Instr) (s : State), s.pending = c :: rest :=
  ⟨.counters, [], { at_ .transfer with pending := [.counters] }, rfl⟩

theorem witness_IdleStepCountsOneMillisecond :
    (∃ s : State, s.pending = [] ∧ s.loader.held = true) ∧
    (∃ s : State, s.pending = [] ∧ s.loader.held = false ∧ s.handoff.reply = some 1) :=
  ⟨⟨State.reset, by decide⟩, ⟨{ at_ .transfer with handoff := { Handoff.reset with reply := some 1 } }, by decide⟩⟩

theorem witness_ResetReleaseBeginsLoad :
    (∃ (rstn : List Bool) (s : State), s.loader.held = true ∧ (s.pins.rstn.run rstn).level = true) ∧
    (∃ (rstn : List Bool) (s : State), s.loader.held = true ∧ (s.pins.rstn.run rstn).level = false) ∧
    (∃ s : State, s.loader.held = false) :=
  ⟨⟨up, State.reset, by decide⟩, ⟨down, State.reset, by decide⟩, ⟨at_ .transfer, rfl⟩⟩

/-- The body of an image of zeros but for station and role. -/
def imageBody (station role : Byte) : List Byte := station :: role :: List.replicate 508 0

/-- An image with its CRC. -/
def image (station role : Byte) : List Byte := imageBody station role ++ beBytes 2 (crc16 (imageBody station role)).toNat

/-- A station in LOAD, strapped as number 2, after some read attempts. -/
def loading (attempts : Nat) : State :=
  { State.reset with loader := { Loader.reset with held := false, own := 2, attempts := attempts } }

theorem imageBody_length (station role : Byte) : (imageBody station role).length = 510 := by
  unfold imageBody
  rw [List.length_cons, List.length_cons, List.length_replicate]

theorem image_good (station role : Byte) : imageGood (image station role) = true := by
  have h := imageBody_length station role
  unfold imageGood image
  generalize imageBody station role = body at h
  rw [List.take_left' h, List.drop_left' h, List.length_append, h]
  exact Bool.and_eq_true _ _ ▸ ⟨rfl, beq_self_eq_true _⟩

theorem witness_ImageReadDecidesStart :
    (∃ (bytes : List Byte) (s : State), s.loader.held = false ∧ s.loader.phase = .load ∧ s.loader.image = none
      ∧ imageGood bytes = false ∧ s.loader.attempts + 1 < 3) ∧
    (∃ (bytes : List Byte) (s : State), s.loader.held = false ∧ s.loader.phase = .load ∧ s.loader.image = none
      ∧ imageGood bytes = false ∧ 3 ≤ s.loader.attempts + 1) ∧
    (∃ (bytes : List Byte) (s : State), s.loader.held = false ∧ s.loader.phase = .load ∧ s.loader.image = none
      ∧ imageGood bytes = true ∧ (s.loader.own = 0 ∨ imageNat 0 1 bytes ≠ s.loader.own)) ∧
    (∃ (bytes : List Byte) (s : State), s.loader.held = false ∧ s.loader.phase = .load ∧ s.loader.image = none
      ∧ imageGood bytes = true ∧ s.loader.own ≠ 0 ∧ imageNat 0 1 bytes = s.loader.own ∧ imageRole bytes = none) ∧
    (∃ (bytes : List Byte) (s : State) (role : Role), s.loader.held = false ∧ s.loader.phase = .load
      ∧ s.loader.image = none ∧ imageGood bytes = true ∧ s.loader.own ≠ 0 ∧ imageNat 0 1 bytes = s.loader.own
      ∧ imageRole bytes = some role) :=
  ⟨⟨[], loading 1, by decide⟩, ⟨[], loading 2, by decide⟩,
   ⟨image 4 3, loading 0, rfl, rfl, rfl, image_good 4 3, by decide⟩,
   ⟨image 2 6, loading 0, rfl, rfl, rfl, image_good 2 6, by decide⟩,
   ⟨image 2 3, loading 0, .transfer, rfl, rfl, rfl, image_good 2 3, by decide⟩⟩

theorem witness_CheckOrdersConfiguration : ∃ own : Nat, own ≠ 0 := ⟨1, by decide⟩

/-- A station in a phase before RUN. -/
def inPhase (p : Phase) (s : State) : State := { s with loader := { s.loader with phase := p } }

theorem witness_JoinCompletionSendsFirstStatus :
    ∃ (bits : List Bool) (s : State), s.link.on = true ∧ s.link.state = .unjoined
      ∧ reachesRecessive 12 s.link.recessive bits = true ∧ s.link.status = none ∧ s.loader.phase = .join
      ∧ ∀ p : PointId, testEnabled s.cfg p = false :=
  ⟨List.replicate 12 true, { inPhase .join (at_ .transfer) with link := { Link.reset with on := true } }, by decide⟩

theorem witness_BaselineEndEntersRun :
    (∀ r : Role, ∃ s : State, s.loader.phase = .baseline ∧ s.loader.baselineTimer = some 0 ∧ noStartupRound s
      ∧ s.cfg.role = r) ∧
    (∃ s : State, s.loader.phase = .baseline ∧ s.loader.baselineTimer = some 0 ∧ noStartupRound s ∧ s.cfg.role = .discharge
      ∧ s.custody.list = [] ∧ s.handoff.expect = none ∧ s.custody.orphanSeq = 8388607
      ∧ (allChannels.filter fun c => s.pins.conn[c].level).length = 4) ∧
    (∀ count : Nat, ∃ (s : State) (a : AnalogueId), s.loader.phase = .baseline ∧ s.loader.baselineTimer = some 0
      ∧ noStartupRound s ∧ s.scanner.round = none ∧ s.cfg.points[analoguePoint a].kind ≠ .disabled
      ∧ s.cfg.points[analoguePoint a].mode = .baseline ∧ s.points[analoguePoint a].baseCount = count
      ∧ s.points[analoguePoint a].provisional = none ∧ s.points[analoguePoint a].reading = some 2000
      ∧ s.cfg.points[analoguePoint a].high = 2000) ∧
    (∀ confirmed : Bool, ∃ s : State, s.running ∧ s.cfg.role = .shredder
      ∧ ∀ z : ZoneId, s.chamber.confirmed[z] = confirmed) :=
  ⟨fun r => ⟨{ at_ r with loader := { Loader.reset with held := false, phase := .baseline, baselineTimer := some 0 } },
     rfl, rfl, (fun _ h => nomatch h), rfl⟩,
   ⟨{ channelsAs Channel.reset true (at_ .discharge) with
      loader := { Loader.reset with held := false, phase := .baseline, baselineTimer := some 0 },
      custody := { Custody.reset with orphanSeq := 8388607 } },
    rfl, rfl, (fun _ h => nomatch h), rfl, rfl, rfl, rfl, by decide⟩,
   fun count =>
    ⟨{ pointsAs { heatPoint with mode := .baseline } (at_ .transfer) with
       loader := { Loader.reset with held := false, phase := .baseline, baselineTimer := some 0 },
       points := Vector.replicate 12 { Point.reset with baseCount := count, reading := some 2000 } },
     7, rfl, rfl, (fun _ h => nomatch h), rfl, by show PointKind.heat ≠ .disabled; decide, rfl, rfl, rfl, rfl, rfl⟩,
   fun confirmed =>
    ⟨{ at_ .shredder with chamber := { Chamber.reset with confirmed := Vector.replicate 4 confirmed } }, rfl, rfl, by
      cases confirmed <;> decide⟩⟩

/-! ## Witnesses: pack custody -/

theorem witness_EntryRiseTakesArrival :
    ∃ (samples : List Bool) (s : State) (x : Expectation), s.running ∧ s.pins.entry.rises samples = true
      ∧ s.handoff.expect = some x ∧ s.link.custody.length < 4 ∧ x.pack.summary.isSome = true ∧ x.pack.overflow = true
      ∧ s.cfg.role = .discharge :=
  ⟨up, { at_ .discharge with
    handoff := { Handoff.reset with expect := some ⟨{ pack 1 with summary := some summary, overflow := true }, 5⟩ } },
   ⟨{ pack 1 with summary := some summary, overflow := true }, 5⟩, by decide⟩

theorem witness_EntryRiseMakesEntry :
    (∃ (samples : List Bool) (s : State), s.running ∧ s.pins.entry.rises samples = true ∧ s.handoff.expect = none
      ∧ 16 ≤ s.custody.list.length) ∧
    (∃ (samples : List Bool) (s : State), s.running ∧ s.pins.entry.rises samples = true ∧ s.handoff.expect = none
      ∧ s.custody.list.length = 15 ∧ s.cfg.role = .intake) ∧
    (∃ (samples : List Bool) (s : State), s.running ∧ s.pins.entry.rises samples = true ∧ s.handoff.expect = none
      ∧ s.custody.list.length < 16 ∧ s.cfg.role ≠ .intake) :=
  ⟨⟨up, holding ((List.range 16).map fun n => entry n .ready) (at_ .intake), by decide⟩,
   ⟨up, holding ((List.range 15).map fun n => entry n .ready) (at_ .intake), by decide⟩, ⟨up, at_ .discharge, by decide⟩⟩

theorem witness_AllocatedTokensAreFree :
    ∃ s : State, CapacityLaw s ∧ s.custody.list.length = 16 ∧ s.custody.nextSerial = 8388607
      ∧ s.custody.orphanSeq = 8388607 :=
  ⟨{ holding ((List.range 16).map fun n => entry n .ready) (at_ .intake) with
     custody := { Custody.reset with list := (List.range 16).map fun n => entry n .ready, nextSerial := 8388607,
                                     orphanSeq := 8388607 } },
   by unfold CapacityLaw; decide, by decide⟩

theorem witness_RemoveRiseTakesOldest :
    (∃ (samples : List Bool) (s : State) (e : Entry), s.running ∧ s.pins.remove.rises samples = true
      ∧ s.cfg.role = .shredder ∧ s.custody.list.find? (fun e => e.state == .ready && !eligible e.pack) = some e) ∧
    (∃ (samples : List Bool) (s : State) (e : Entry), s.running ∧ s.pins.remove.rises samples = true
      ∧ s.cfg.role ≠ .shredder ∧ s.custody.list.find? (fun e => e.state == .waiting || e.state == .ready) = some e
      ∧ 32 ≤ (Tally.fillingBank s.tally).length) ∧
    (∃ (samples : List Bool) (s : State), s.running ∧ s.pins.remove.rises samples = true
      ∧ s.cfg.role ≠ .shredder ∧ s.custody.list.find? (fun e => e.state == .waiting || e.state == .ready) = none) :=
  ⟨⟨up, holding [entry 1 .ready] (at_ .shredder), entry 1 .ready, by decide⟩,
   ⟨up, { holding [entry 1 .waiting] (at_ .transfer) with
          tally := { Tally.reset with bankA := List.replicate 32 (tallyRecord (pack 9) 0 .removed none (at_ .transfer)) } },
    entry 1 .waiting, by decide⟩,
   ⟨up, holding [entry 1 .feeding] (at_ .transfer), by decide⟩⟩

theorem witness_ThroatPulseConsumesPack :
    (∃ (samples : List Bool) (s : State) (e : Entry), s.running ∧ s.cfg.role = .shredder
      ∧ s.pins.throat.rises samples = true ∧ feedingEntry s = some e) ∧
    (∃ (samples : List Bool) (s : State) (e : Entry), s.running ∧ s.cfg.role = .shredder
      ∧ s.pins.throat.rises samples = true ∧ feedingEntry s = none ∧ feedCandidate s = some e) ∧
    (∃ (samples : List Bool) (s : State), s.running ∧ s.cfg.role = .shredder ∧ s.pins.throat.rises samples = true
      ∧ feedingEntry s = none ∧ feedCandidate s = none) :=
  ⟨⟨up, holding [entry 1 .feeding] (at_ .shredder), entry 1 .feeding, by decide⟩,
   ⟨up, holding [{ entry 1 .ready with pack := { pack 1 with summary := some summary } }] (at_ .shredder),
    { entry 1 .ready with pack := { pack 1 with summary := some summary } }, by decide⟩,
   ⟨up, at_ .shredder, by decide⟩⟩

/-- Zone 1 given, and what its members report. -/
def zoneAs (z : Zone) (st : PointReport) (s : State) : State :=
  { s with zones := { s.zones with zones := s.zones.zones.set 0 z, members := Vector.replicate 12 st } }

theorem witness_RestoreKeyClears :
    (∃ (samples : List Bool) (s : State), s.running ∧ s.pins.restore.rises samples = true ∧ allCool s = true) ∧
    (∃ (samples : List Bool) (s : State), s.running ∧ s.pins.restore.rises samples = true ∧ allCool s = false) ∧
    (∃ (samples : List Bool) (s : State), s.running ∧ s.pins.restore.rises samples = true ∧ s.link.custody.length = 2
      ∧ s.hazard.causes[Cause.index .linkFault].latch = true) ∧
    (∃ s : State, s.zones.zones[(0 : ZoneId)].status ≠ .confirmed) ∧
    (∃ s : State, s.zones.zones[(0 : ZoneId)].status = .confirmed ∧ ∃ p, alarmingMember s 0 = some p) ∧
    (∃ s : State, s.zones.zones[(0 : ZoneId)].status = .confirmed ∧ alarmingMember s 0 = none) ∧
    (∃ y : ZoneId, y ≠ 0) :=
  ⟨⟨up, at_ .transfer, by decide⟩, ⟨up, channelsAs (channelIn .done) true (at_ .discharge), by decide⟩,
   ⟨up, { at_ .transfer with
      hazard := { Evaluator.reset with causes := Vector.replicate 14 { CauseRecord.reset .high with latch := true } },
      link := { Link.reset with custody := List.replicate 2 ⟨⟨2, 5, .accept ⟨3, 1⟩⟩, 0⟩ } }, by decide⟩,
   ⟨at_ .transfer, by decide⟩,
   ⟨pointsAs heatPoint (zoneAs { Zone.reset with status := .confirmed } .alarm (at_ .transfer)), by decide, 0, by decide⟩,
   ⟨pointsAs heatPoint (zoneAs { Zone.reset with status := .confirmed } .normal (at_ .transfer)), by decide⟩,
   ⟨1, by decide⟩⟩

/-! ## Witnesses: discharge channels -/

/-- The voltage limits set. -/
def withVolts (present safe : Nat) (s : State) : State := { s with cfg := { s.cfg with vPresent := present, vSafe := safe } }

theorem tokens_differ : [(⟨3, 1⟩ : Token), ⟨3, 2⟩].Nodup := by decide

theorem witness_ConnRiseChecksVoltage :
    (∃ (c : ChannelId) (samples : List Bool) (volts : Nat) (s : State), s.running ∧ s.cfg.role = .discharge
      ∧ s.pins.conn[c].rises samples = true ∧ (s.pins.conn[c].run samples).level = true
      ∧ s.channels[c].state = .connecting ∧ (if s.channels[c].sampled then s.channels[c].volts else min volts 65535) + 1
          = s.cfg.vPresent) ∧
    (∃ (c : ChannelId) (samples : List Bool) (volts : Nat) (s : State), s.running ∧ s.cfg.role = .discharge
      ∧ s.pins.conn[c].rises samples = true ∧ (s.pins.conn[c].run samples).level = true
      ∧ s.channels[c].state = .connecting ∧ s.calm
      ∧ s.cfg.vPresent = (if s.channels[c].sampled then s.channels[c].volts else min volts 65535)) ∧
    (∀ conn : Bool, ∃ (c : ChannelId) (s : State) (e : Entry), s.channels[c].state = .empty
      ∧ s.custody.list.find? (·.state == .waiting) = some e ∧ findEntry s e.pack.token = some e
      ∧ s.pins.conn[c].level = conn ∧ s.cfg.vPresent = 0 ∧ channelsAct s ∧ TokenLaw s) ∧
    (∃ (c : ChannelId) (s : State) (e : Entry), s.channels[c].state = .empty
      ∧ s.custody.list.find? (·.state == .waiting) = some e ∧ findEntry s e.pack.token = some e
      ∧ s.pins.conn[c].level = true ∧ connectVolts c s < s.cfg.vPresent) ∧
    (∃ (c : ChannelId) (s : State), s.channels[c].state ≠ .empty) ∧ (∃ s : State, noneWaiting s) :=
  ⟨⟨3, up, 9, withVolts 10 0 (channelsAs (channelIn .connecting) false (at_ .discharge)), by decide⟩,
   ⟨3, up, 10, withVolts 10 0 (channelsAs (channelIn .connecting) false (at_ .discharge)), by decide⟩,
   fun conn => ⟨3, holding [entry 1 .ready, entry 2 .waiting] (channelsAs Channel.reset conn (at_ .discharge)),
     entry 2 .waiting, rfl, rfl, rfl, rfl, rfl, ⟨rfl, rfl⟩, tokens_differ⟩,
   ⟨3, holding [entry 2 .waiting] (withVolts 1 0 (channelsAs Channel.reset true (at_ .discharge))), entry 2 .waiting,
    by decide⟩,
   ⟨0, channelsAs (channelIn .held) true (at_ .discharge), by decide⟩, ⟨at_ .discharge, fun _ h => nomatch h⟩⟩

theorem witness_ConnFallEndsDischarge :
    (∀ st : ChannelState, st ∈ [.discharge, .held, .rest, .done, .empty, .connecting] →
      ∃ (c : ChannelId) (samples : List Bool) (s : State), s.running ∧ s.cfg.role = .discharge
        ∧ s.pins.conn[c].falls samples = true ∧ (s.pins.conn[c].run samples).level = false ∧ noneWaiting s ∧ s.calm
        ∧ s.channels[c].state = st) ∧
    (∃ (c : ChannelId) (tok : Token) (s : State), s.channels[c].token = some tok
      ∧ requestApplies s tok .inChannel = true) :=
  ⟨fun st _ => ⟨0, down, channelsAs (channelIn st) true (at_ .discharge), rfl, rfl, rfl, rfl,
    fun _ h => by simp [channelsAs, at_, State.reset, Custody.reset] at h, rfl, rfl⟩,
   ⟨3, ⟨3, 1⟩, holding [entry 1 .inChannel] (channelsAs (channelIn .done) false (at_ .discharge)), by decide⟩⟩

theorem witness_VerdictWritesSummary :
    ∃ (c : ChannelId) (s : State) (e : Entry), s.channels[c].token = some e.pack.token
      ∧ findEntry s e.pack.token = some e ∧ e.state = .inChannel ∧ e.channel = some c :=
  ⟨2, holding [{ entry 1 .inChannel with channel := some 2 }] (channelsAs (channelIn .discharge) true (at_ .discharge)),
   { entry 1 .inChannel with channel := some 2 }, by decide⟩

theorem witness_SampleAccumulates : ∀ st : ChannelState, st ≠ .empty →
    ∃ (c : ChannelId) (volts : Nat) (current temp : Int) (s : State), s.running ∧ s.cfg.role = .discharge
      ∧ s.pins.conn[c].level = true ∧ s.channels[c].state = st ∧ voltsInRange volts = true
      ∧ currentInRange current = true ∧ tempInRange temp = true :=
  fun st _ => ⟨0, 65535, -32768, 2000, channelsAs (channelIn st) true (at_ .discharge), rfl, rfl, rfl, rfl,
    by decide, by decide, by decide⟩

theorem witness_HotSampleEndsThermal :
    (∃ (c : ChannelId) (temp : Int) (s : State), s.running ∧ s.cfg.role = .discharge ∧ s.pins.conn[c].level = true
      ∧ s.channels[c].state = .held ∧ -400 ≤ temp ∧ temp ≤ 2000 ∧ s.cfg.tCut = temp) ∧
    (∃ (c : ChannelId) (temp : Int) (s : State), s.channels[c].state = .discharge ∧ temp = -401) ∧
    (∀ (st : ChannelState) (sensor : Bool) (line : Hazard), ∃ (c : ChannelId) (s : State), channelsAct s
      ∧ s.channels[c].state = st ∧ s.channels[c].holdSensor = sensor ∧ causeActive s .lineStop = false
      ∧ s.hazard.line = line) :=
  ⟨⟨0, 2000, { channelsAs (channelIn .held) true (at_ .discharge) with
      cfg := { Config.blank with role := .discharge, tCut := 2000 } }, by decide⟩,
   ⟨0, -401, channelsAs (channelIn .discharge) true (at_ .discharge), by decide⟩,
   fun st sensor line =>
     ⟨0, { channelsAs { channelIn st with holdSensor := sensor } true (at_ .discharge) with
           hazard := { Evaluator.reset with line := line } }, ⟨rfl, rfl⟩, rfl, rfl, rfl, rfl⟩⟩

theorem witness_RestEndJudgesVoltage : ∀ (safe rebounds most : Nat),
    ∃ (c : ChannelId) (s : State), s.running ∧ s.cfg.role = .discharge ∧ s.pins.conn[c].level = true
      ∧ s.channels[c].state = .rest ∧ s.channels[c].rest = some 0 ∧ s.channels[c].window = [100, 101]
      ∧ s.cfg.vSafe = safe ∧ s.channels[c].rebounds = rebounds ∧ s.cfg.rMax = most ∧ s.calm :=
  fun safe rebounds most =>
    ⟨0, { channelsAs { channelIn .rest with rest := some 0, window := [100, 101], rebounds := rebounds } true
            (at_ .discharge) with cfg := { Config.blank with role := .discharge, vSafe := safe, rMax := most } },
     rfl, rfl, rfl, rfl, rfl, rfl, rfl, rfl, rfl, rfl⟩

theorem witness_DischargeTimeEndsExpired :
    (∃ (c : ChannelId) (s : State), s.running ∧ s.cfg.role = .discharge ∧ s.pins.conn[c].level = true
      ∧ s.channels[c].state = .held ∧ s.cfg.maxMs = s.channels[c].spent) ∧
    (∀ (conn : Bool) (zone : Nat) (st : ChannelState), ∃ (c : ChannelId) (s : State), channelsAct s
      ∧ s.cfg.channels[c].zone = zone ∧ s.channels[c].state = st ∧ s.pins.conn[c].level = conn) :=
  ⟨⟨0, channelsAs (channelIn .held) true (at_ .discharge), by decide⟩,
   fun conn zone st =>
     ⟨0, { channelsAs (channelIn st) conn (at_ .discharge) with
           cfg := { Config.blank with role := .discharge, channels := Vector.replicate 4 ⟨zone, 100⟩ } },
      ⟨rfl, rfl⟩, rfl, rfl, rfl⟩⟩

/-- A station whose channel A discharges a pack at the limits of the tests of R55. -/
def sampled : State :=
  { channelsAs (channelIn .discharge) true (at_ .discharge) with
    cfg := { Config.blank with role := .discharge, tm := 100, nEnd := 1, noRespMs := 1, tKnee := 400, tCut := 600,
                               pMax := 100, channels := Vector.replicate 4 ⟨0, 400⟩ } }

/-- The same with the load on at a duty, every voltage at the end voltage and the no-response time one sample short. -/
def atLoad (duty : Nat) : State :=
  { channelsAs { channelIn .discharge with load := duty, noResp := 900 } true (at_ .discharge) with
    cfg := { sampled.cfg with vEnd := 65535, noRespMs := 1000 } }

theorem witness_DutyKeepsPowerLimit :
    (∃ limit full d : Nat, limit < full ∧ full * d ≤ 1024 * limit ∧ 1024 * limit < full * (d + 1)) ∧
    (∃ tKnee tCut t u : Int, tKnee < tCut ∧ t ≤ tKnee ∧ tCut ≤ u ∧ t ≤ u) ∧
    (∃ tKnee tCut t : Int, tKnee < t ∧ t < tCut) ∧
    (∃ (c : ChannelId) (s : State), s.running ∧ s.cfg.role = .discharge ∧ s.channels[c].state = .discharge
      ∧ reassess s = (s, []) ∧ s.hazard.facts.channel[c] = false ∧ (599 : Int) < s.cfg.tCut
      ∧ (let k := countSample s.cfg (accumulate s.cfg.tm
          { s.channels[c] with volts := 65535, current := 32767, temp := 599, sampled := true,
                               duty := s.channels[c].load })
        k.noResp < s.cfg.noRespMs ∧ k.endCount < s.cfg.nEnd)) ∧
    (∃ (c : ChannelId) (s : State), s.running ∧ s.cfg.role = .discharge ∧ s.channels[c].state = .discharge
      ∧ reassess s = (s, []) ∧ s.hazard.facts.channel[c] = false ∧ (599 : Int) < s.cfg.tCut
      ∧ (let k := countSample s.cfg (accumulate s.cfg.tm
          { s.channels[c] with volts := 65535, current := 32767, temp := 599, sampled := true,
                               duty := s.channels[c].load })
        k.noResp < s.cfg.noRespMs ∧ k.endCount = s.cfg.nEnd)) ∧
    (∃ (c : ChannelId) (s : State), s.running ∧ s.cfg.role = .discharge ∧ s.channels[c].state = .discharge
      ∧ s.pins.conn[c].level = true ∧ (599 : Int) < s.cfg.tCut ∧ 0 < s.channels[c].load
      ∧ holdCurrent (-40000) < s.cfg.iMin ∧ s.cfg.noRespMs = s.channels[c].noResp + s.cfg.tm) :=
  ⟨⟨3, 4, 768, by decide⟩, ⟨400, 401, 400, 401, by decide⟩, ⟨400, 402, 401, by decide⟩,
   ⟨0, (reassess sampled).1, by decide +kernel⟩, ⟨0, (reassess (atLoad 1)).1, by decide +kernel⟩,
   ⟨0, atLoad 1, by decide +kernel⟩⟩

/-! ## Witnesses: points and zones -/

/-- Points one in-band scan short of their recovery, with baseline 300 and the readings of an interval at 100. -/
def recovering (mode : CompareMode) : State :=
  { pointsAs { heatPoint with mode := mode } (at_ .transfer) with
    points := Vector.replicate 12 { Point.reset with
      band := true, recovery := 99, level := .warn, baseline := some 300, history := List.replicate 101 100 } }

theorem witness_PointScanJudgesReading :
    (∃ (a : AnalogueId) (s : State), Phase.scans s.loader.phase = true
      ∧ s.cfg.points[analoguePoint a].kind ≠ .disabled ∧ lampIsOn s (analoguePoint a) = false
      ∧ s.points[analoguePoint a].band = false ∧ s.cfg.points[analoguePoint a].mode = .absolute
      ∧ s.cfg.points[analoguePoint a].low = -400 ∧ s.cfg.points[analoguePoint a].high = 2000
      ∧ holdReading .heat (-401) < -400 ∧ -400 ≤ holdReading .heat (-400) ∧ holdReading .heat 2000 ≤ 2000) ∧
    (∀ mode : CompareMode, ∃ (a : AnalogueId) (s : State), Phase.scans s.loader.phase = true
      ∧ s.cfg.points[analoguePoint a].kind ≠ .disabled ∧ lampIsOn s (analoguePoint a) = false
      ∧ s.points[analoguePoint a].band = true ∧ s.points[analoguePoint a].recovery = 99
      ∧ s.cfg.points[analoguePoint a].mode = mode ∧ s.points[analoguePoint a].provisional = none
      ∧ s.points[analoguePoint a].baseline = some 300
      ∧ (300 :: s.points[analoguePoint a].history)[s.cfg.points[analoguePoint a].span * 100]? = some 100) ∧
    (∃ (a : AnalogueId) (s : State), Phase.scans s.loader.phase = true
      ∧ s.cfg.points[analoguePoint a].kind ≠ .disabled ∧ lampIsOn s (analoguePoint a) = false
      ∧ s.cfg.points[analoguePoint a].mode = .baseline ∧ s.points[analoguePoint a].provisional = none
      ∧ s.points[analoguePoint a].baseline = none) :=
  ⟨⟨7, pointsAs heatPoint (at_ .transfer), by decide⟩, fun mode => ⟨7, recovering mode, by cases mode <;> decide +kernel⟩,
   ⟨7, pointsAs { heatPoint with mode := .baseline } (at_ .transfer), by decide⟩⟩

/-- R83, R84: 300 is ALARM as it is, NORMAL against the baseline 300, ALARM by 200 against 100 an interval before. -/
theorem test_compare_modes :
    [CompareMode.absolute, .baseline, .rate].map (fun m =>
      let pt := (after (.pointScan 7 300) (recovering m)).points[7]
      (pt.compare, pt.level, pt.band)) = [(some 300, .alarm, false), (some 0, .normal, false), (some 200, .alarm, false)] := by
  decide +kernel

theorem witness_LevelFallsOnlyPastHysteresis :
    heatPoint.warn ≤ heatPoint.alarm ∧ nextLevel heatPoint .alarm 189 ≠ .alarm ∧ nextLevel heatPoint .warn 89 = .normal
      ∧ nextLevel heatPoint .normal 99 = .normal ∧ (89 : Int) < heatPoint.warn - heatPoint.hyst := by decide

theorem witness_PulsePointsCountEdges :
    (∃ (q : PulseId) (s : State), Phase.scans s.loader.phase = true ∧ s.cfg.points[pulsePoint q].kind ≠ .disabled
      ∧ s.points[pulsePoint q].window = some 0 ∧ lampIsOn s (pulsePoint q) = false
      ∧ s.points[pulsePoint q].away = true) ∧
    (∃ (q : PulseId) (s : State), Phase.scans s.loader.phase = true ∧ s.cfg.points[pulsePoint q].kind ≠ .disabled
      ∧ s.points[pulsePoint q].window = some 0 ∧ lampIsOn s (pulsePoint q) = false
      ∧ s.points[pulsePoint q].away = false) ∧
    (∃ (q : PulseId) (s : State), s.cfg.points[pulsePoint q].kind = .disabled) :=
  ⟨⟨0, { pointsAs { heatPoint with kind := .flame } (at_ .transfer) with
         points := Vector.replicate 12 { Point.reset with window := some 0, away := true } }, by decide⟩,
   ⟨0, { pointsAs { heatPoint with kind := .flame } (at_ .transfer) with
         points := Vector.replicate 12 { Point.reset with window := some 0 } }, by decide⟩,
   ⟨3, at_ .transfer, by decide⟩⟩

/-- A round of self-tests at a point, with its timers running. -/
def testing (startup : Bool) (p : PointId) (part : TestPart) (s : State) : State :=
  { s with scanner := { Scanner.reset with round := some ⟨startup, p, part⟩, testTimer := some 0, releaseTimer := some 0 } }

/-- The line hazard set. -/
def onLine (line : Hazard) (s : State) : State := { s with hazard := { s.hazard with line := line } }

theorem witness_TestTimersJudgePoint :
    (∃ (p : PointId) (s : State), s.loader.phase = .test ∧ (∀ q : PointId, p.val < q.val → testEnabled s.cfg q = false)
      ∧ s.scanner.round = some ⟨true, p, .lamp⟩ ∧ s.scanner.testTimer = some 0) ∧
    (∃ (p : PointId) (s : State), s.loader.phase = .test ∧ (∀ q : PointId, p.val < q.val → testEnabled s.cfg q = false)
      ∧ s.scanner.round = some ⟨true, p, .release false⟩ ∧ s.scanner.releaseTimer = some 0) ∧
    (∃ (p : PointId) (s : State), s.running ∧ s.scanner.round = some ⟨false, p, .lamp⟩
      ∧ s.scanner.testTimer = some 0) ∧
    (∃ (p : PointId) (s : State), s.running ∧ s.scanner.round = some ⟨false, p, .release true⟩
      ∧ s.scanner.releaseTimer = some 0) ∧
    (∀ (startup : Bool) (level : PointLevel), ∃ (p : PointId) (s : State), s.cfg.points[p].kind ≠ .disabled
      ∧ s.scanner.round = some ⟨startup, p, .lamp⟩ ∧ s.points[p].reported = .testing ∧ s.points[p].level = level) ∧
    (∀ reading : Int, reading = 199 ∨ reading = 200 → ∃ (a : AnalogueId) (s : State),
      s.cfg.points[analoguePoint a].kind ≠ .disabled ∧ s.scanner.round = some ⟨true, analoguePoint a, .lamp⟩
      ∧ s.loader.phase = .test
      ∧ (scanRecord .test true s.cfg.points[analoguePoint a] reading s.points[analoguePoint a]).level
          = if reading = 200 then .alarm else .warn) ∧
    (∀ line : Hazard, line = .caution ∨ line = .hold → ∃ (p : PointId) (s : State), s.running
      ∧ s.scanner.round = some ⟨false, p, .lamp⟩ ∧ testDeferred s p = decide (line = .hold)) ∧
    (∃ (p : PointId) (s : State), s.running ∧ s.scanner.round = some ⟨false, p, .moving⟩ ∧ testDeferred s p = true) :=
  ⟨⟨11, testing true 11 .lamp (inPhase .test (at_ .transfer)), by decide⟩,
   ⟨0, testing true 0 (.release false) (inPhase .test (at_ .transfer)), by decide⟩,
   ⟨0, testing false 0 .lamp (at_ .transfer), by decide⟩, ⟨0, testing false 0 (.release true) (at_ .transfer), by decide⟩,
   fun startup level => ⟨0, { testing startup 0 .lamp (pointsAs heatPoint (at_ .transfer)) with
      points := Vector.replicate 12 { Point.reset with reported := .testing, level := level } },
     by show PointKind.heat ≠ .disabled; decide, rfl, rfl, rfl⟩,
   (fun _ h => ⟨7, testing true 7 .lamp (inPhase .test (pointsAs heatPoint (at_ .transfer))), by
      rcases h with rfl | rfl <;> decide +kernel⟩),
   (fun line h => ⟨0, onLine line (testing false 0 .lamp (pointsAs heatPoint (at_ .transfer))), by
      rcases h with rfl | rfl <;> decide⟩),
   ⟨0, onLine .hold (testing false 0 .moving (at_ .transfer)), by decide⟩⟩

/-- R95, R96: level ALARM under the lamp is a PASS; a line hazard of HOLD aborts the test and keeps the result. -/
theorem test_pass_and_abort :
    let s := testing false 0 .lamp (pointsAs heatPoint (at_ .transfer))
    let p := after (.pointScan 0 200) s
    let a := (scannerLook (onLine .hold s)).1
    p.points[0].result = some .pass ∧ p.scanner.round = some ⟨false, 0, .release false⟩
      ∧ a.points[0].counts.aborts = ⟨1, 1⟩ ∧ a.scanner.round = some ⟨false, 0, .release true⟩ := by decide +kernel

/-- The interval timer running, and test line 1 naming point 2. -/
def interval (line : Hazard) (s : State) : State :=
  { pointsAs heatPoint s with
    cfg := { (pointsAs heatPoint s).cfg with testLines := (Vector.replicate 4 0).set 0 2 },
    scanner := { Scanner.reset with intervalTimer := some 0 }, hazard := { s.hazard with line := line } }

theorem witness_TestIntervalBeginsRound :
    (∃ s : State, s.running ∧ s.scanner.intervalTimer = some 0 ∧ s.scanner.round = none
      ∧ ∀ p : PointId, testEnabled s.cfg p = false) ∧
    (∃ (s : State) (p : PointId), s.running ∧ s.scanner.intervalTimer = some 0 ∧ s.scanner.round = none
      ∧ testEnabled s.cfg p = true ∧ (∀ q : PointId, q.val < p.val → testEnabled s.cfg q = false)
      ∧ Point.untestable s.points[p] = false ∧ testDeferred s p = true) ∧
    (∃ (s : State) (p : PointId), s.running ∧ s.scanner.intervalTimer = some 0 ∧ s.scanner.round = none
      ∧ testEnabled s.cfg p = true ∧ (∀ q : PointId, q.val < p.val → testEnabled s.cfg q = false)
      ∧ Point.untestable s.points[p] = false ∧ testDeferred s p = false) :=
  ⟨⟨{ at_ .transfer with scanner := { Scanner.reset with intervalTimer := some 0 } }, by decide⟩,
   ⟨interval .hold (at_ .transfer), 1, by decide⟩, ⟨interval .caution (at_ .transfer), 1, by decide⟩⟩

theorem witness_ZoneTimersDecideZone :
    (∃ (z : ZoneId) (s : State), s.running ∧ s.zones.zones[z].status = .pending
      ∧ s.zones.zones[z].window = .running 0 ∧ s.calm
      ∧ s.zones.zones[z].heldPoint.any (fun p => s.zones.members[p] == .alarm) = true) ∧
    (∃ (z : ZoneId) (s : State), s.running ∧ s.zones.zones[z].status = .pending
      ∧ s.zones.zones[z].window = .running 0 ∧ s.calm
      ∧ s.zones.zones[z].heldPoint.any (fun p => s.zones.members[p] == .alarm) = false ∧ alarmingMember s z = none) ∧
    (∃ (p : PointId) (z : ZoneId) (s : State), s.running ∧ s.zones.persist[p] = some 0
      ∧ zoneOfNumber s.cfg.points[p].zone = some z ∧ s.zones.zones[z].status = .quiet ∧ joined s
      ∧ isMember s.cfg z p = true) :=
  ⟨⟨0, zoneAs { Zone.reset with status := .pending, heldPoint := some 0, window := .running 0 } .alarm (at_ .transfer),
    by decide⟩,
   ⟨0, zoneAs { Zone.reset with status := .pending, heldPoint := some 0, window := .running 0 } .normal (at_ .transfer),
    by decide⟩,
   ⟨11, 0, { pointsAs heatPoint (at_ .transfer) with
             zones := { ZoneLogic.reset with persist := Vector.replicate 12 (some 0) } }, by decide⟩⟩

/-- A scan at the alarm threshold of point 1 confirms zone 1, in this mode and with this record. -/
def confirms (mode : ZoneMode) (zone : Zone) (s : State) : State :=
  let s := pointsAs heatPoint (zoneAs zone .normal s)
  { s with cfg := { s.cfg with zones := Vector.replicate 4 ⟨mode, 1000, 0⟩ } }

theorem witness_AlarmEventJudgesZone :
    (∀ (st : ZoneStatus) (m : ZoneMode) (h : Option PointId),
      ∃ s : State, s.zones.zones[(0 : ZoneId)].status = st ∧ s.zones.zones[(0 : ZoneId)].mode = m
        ∧ s.zones.zones[(0 : ZoneId)].heldPoint = h) ∧
    (∀ m : ZoneMode, ∃ s : State, s.running ∧ noStartupRound s ∧
      let k := s.cfg.points[analoguePoint 0]
      let mode := effectiveMode s.cfg.zones[(0 : ZoneId)].mode (healthyCount (recordMember (analoguePoint 0) .alarm s) 0)
      k.kind = .heat ∧ k.mode = .absolute ∧ zoneOfNumber k.zone = some 0 ∧ Scanner.testing s.scanner 0 = false
        ∧ k.low ≤ 200 ∧ 200 ≤ k.high ∧ k.alarm = 200 ∧ s.points[(0 : PointId)].reported ≠ .alarm
        ∧ s.points[(0 : PointId)].band = false ∧ s.points[(0 : PointId)].noBaseline = false
        ∧ s.points[(0 : PointId)].stuck = false ∧ s.points[(0 : PointId)].testFault = false ∧ mode = m ∧ joined s
        ∧ s.zones.zones[(0 : ZoneId)].status = (if m = .single then .quiet else .pending)
        ∧ s.zones.zones[(0 : ZoneId)].heldPoint = some 1) :=
  ⟨fun st m h => ⟨zoneAs { Zone.reset with status := st, mode := m, heldPoint := h } .alarm (at_ .transfer), rfl, rfl, rfl⟩,
   fun m => ⟨confirms m { Zone.reset with status := if m = .single then .quiet else .pending, heldPoint := some 1 }
      (at_ .transfer), rfl, (fun _ h => nomatch h), by cases m <;> decide +kernel⟩⟩

/-- A station whose evaluator is told that point 3 is in ALARM, the cause at a level. -/
def alarmed (level : Level) (slots : Nat) (s : State) : State :=
  { s with
    link := { s.link with alarms := List.replicate slots ⟨⟨2, 0, .accept ⟨3, 1⟩⟩, 0⟩ },
    hazard := { Evaluator.reset with
      facts := { Evaluator.reset.facts with points := (Vector.replicate 12 (some .normal)).set 2 (some .alarm) },
      causes := Vector.replicate 14 (CauseRecord.reset level) } }

theorem two_le_nominal : 2 ≤ Level.rank .nominal := by decide

theorem only_alarm : ∀ d, condition (alarmed .nominal 1 (at_ .transfer)) d = true → d = .pointAlarm :=
  fun d h => by cases d <;> first | rfl | exact absurd h (by decide)

theorem witness_HazardIsHighestContribution :
    (∃ s : State, s.running ∧ (reassess s).1.hazard.line = s.hazard.line ∧ ∀ c, ¬ Activates s c) ∧
    (∃ s : State, s.running ∧ (reassess s).1.hazard.line ≠ s.hazard.line) ∧
    (∀ b : Bool, ∃ s : State, s.running ∧ Activates s .pointAlarm ∧ (∀ d, Activates s d → d = .pointAlarm)
      ∧ s.link.alarms.length = (if b then 1 else 2)) ∧
    (∀ st : PointReport, ∃ (s : State) (p : PointId), s.hazard.facts.points[p] = some st
      ∧ ∀ q : PointId, q.val < p.val → s.hazard.facts.points[q] ≠ some st) ∧
    (∃ (s : State) (z : ZoneId), (∀ q : PointId, s.hazard.facts.points[q] ≠ some .fault)
      ∧ s.hazard.facts.zoneFault[z] = true ∧ ∀ y : ZoneId, y.val < z.val → s.hazard.facts.zoneFault[y] = false) ∧
    (∃ s : State, s.running ∧ (∀ c, ¬ Activates s c) ∧ s.link.alarms.length < 2 ∧ joined s) :=
  ⟨⟨at_ .transfer, rfl, by decide +kernel, fun c => by cases c <;> (unfold Activates; decide +kernel)⟩,
   ⟨alarmed .high 0 (at_ .transfer), rfl, by decide +kernel⟩,
   fun b => ⟨alarmed .nominal (if b then 1 else 2) (at_ .transfer), rfl,
     ⟨rfl, (fun h => nomatch h), rfl, rfl, two_le_nominal⟩, (fun d h => only_alarm d h.2.2.2.1), List.length_replicate⟩,
   fun st => ⟨{ at_ .transfer with hazard := { Evaluator.reset with
       facts := { Evaluator.reset.facts with points := Vector.replicate 12 (some st) } } }, 0, rfl,
     fun q h => absurd h (Nat.not_lt_zero _)⟩,
   ⟨{ at_ .transfer with hazard := { Evaluator.reset with
       facts := { Evaluator.reset.facts with zoneFault := Vector.replicate 4 true } } }, 0, by decide⟩,
   ⟨at_ .transfer, rfl, (fun c => by cases c <;> (unfold Activates; decide +kernel)), by decide, by decide⟩⟩

theorem witness_StopBurstHoldsLineStop :
    (∃ (bits : List Bool) (s : State), s.link.on = true ∧ LinkState.hearsBursts s.link.state = true
      ∧ reachesBurst s.link.dominant bits = true ∧ s.running ∧ s.calm) ∧
    (∃ (bits : List Bool) (s : State), s.link.on = true ∧ LinkState.hearsBursts s.link.state = true
      ∧ reachesBurst s.link.dominant bits = true ∧ ¬ s.running) ∧
    (∃ s : State, s.running ∧ s.hazard.stopHold = some 0) :=
  ⟨⟨List.replicate 16 false, at_ .transfer, by decide⟩,
   ⟨List.replicate 16 false, inPhase .test (at_ .transfer), by decide⟩,
   ⟨{ at_ .transfer with hazard := { Evaluator.reset with stopHold := some 0 } }, by decide⟩⟩

/-! ## Witnesses: hand-off -/

/-- An offer of `pack 1` outstanding to station 5, its entry OFFERED. -/
def offering (line : Hazard) (s : State) : State :=
  { holding [entry 1 .offered] s with
    handoff := { Handoff.reset with offer := some ⟨⟨3, 1⟩, 5⟩, reply := some 0 },
    hazard := { s.hazard with line := line } }

theorem witness_ReplyExpiryReturnsOffer :
    (∃ (o : Offer) (s : State), s.running ∧ s.handoff.offer = some o ∧ s.handoff.reply = some 0
      ∧ requestApplies s o.token .offered = true) ∧
    (∃ (o : Offer) (s : State), s.running ∧ s.handoff.offer = some o ∧ s.handoff.reply = some 0
      ∧ requestApplies s o.token .offered = false) :=
  ⟨⟨⟨⟨3, 1⟩, 5⟩, offering .clear (at_ .transfer), by decide⟩,
   ⟨⟨⟨3, 1⟩, 5⟩, holding [entry 1 .adrift] (offering .clear (at_ .transfer)), by decide⟩⟩

/-- Station 5 FRESH and in RUN with a place free, the primary downstream, and the retry timer running. -/
def retrying (s : State) : State :=
  { s with
    cfg := { s.cfg with primary := 5 },
    handoff := { Handoff.reset with retry := some 0 },
    peers := { PeerView.reset with
      entries := Vector.replicate 31
        { PeerEntry.reset with heard := true, role := .transfer, phase := some .run, free := 1, freshness := .fresh } } }

theorem witness_RetryExpirySearchesAndGateCloses :
    (∃ (s : State) (e : Entry), s.running ∧ s.handoff.retry = some 0 ∧ Role.offers s.cfg.role = true
      ∧ s.handoff.offer = none ∧ s.link.custody.length < 4 ∧ reofferCandidate s = some e) ∧
    (∃ (s : State) (e : Entry), s.running ∧ s.handoff.retry = some 0 ∧ Role.offers s.cfg.role = true
      ∧ s.handoff.offer = none ∧ s.link.custody.length < 4 ∧ reofferCandidate s = none ∧ offerCandidate s = some e
      ∧ findEntry s e.pack.token = some e ∧ ∀ x ∈ s.custody.list, x.state ≠ .offered) ∧
    (∃ s : State, s.running ∧ s.handoff.retry = some 0 ∧ Role.offers s.cfg.role = true
      ∧ s.handoff.offer = none ∧ s.link.custody.length < 4 ∧ reofferCandidate s = none ∧ offerCandidate s = none) ∧
    (∃ s : State, s.handoff.gate = some 0) :=
  ⟨⟨retrying (holding [{ entry 1 .adrift with restart := true }] (at_ .transfer)),
    { entry 1 .adrift with restart := true }, by decide⟩,
   ⟨retrying (holding [entry 1 .ready] (at_ .transfer)), entry 1 .ready, by decide⟩,
   ⟨retrying (at_ .transfer), by decide⟩,
   ⟨{ at_ .transfer with handoff := { Handoff.reset with gate := some 0 } }, by decide⟩⟩

theorem witness_TransitExpirySendsMissing :
    ∃ (x : Expectation) (s : State), s.running ∧ s.handoff.expect = some x ∧ s.handoff.transit = some 0
      ∧ s.link.custody.length < 4 :=
  ⟨⟨pack 1, 5⟩, { at_ .transfer with
    handoff := { Handoff.reset with expect := some ⟨pack 1, 5⟩, transit := some 0 } }, by decide⟩

/-- A pack that every test of Table 14 lets pass. -/
def goodPack : PackRecord := { pack 1 with summary := some summary }

theorem witness_RefusalReasonsInOrder :
    (∃ s : State, s.handoff.expect.isSome = true) ∧
    (∃ s : State, s.handoff.expect = none ∧ s.custody.list.length = 16) ∧
    (∃ s : State, s.handoff.expect = none ∧ s.cfg.role = .discharge ∧ freeChannels s = 0) ∧
    (∃ s : State, s.handoff.expect = none ∧ s.custody.list.length = 15 ∧ (s.cfg.role = .discharge → 0 < freeChannels s)
      ∧ s.cfg.role ≠ .quarantine ∧ Hazard.rank s.hazard.line = 2) ∧
    (∃ (s : State) (p : PackRecord), s.handoff.expect = none ∧ s.custody.list.length < 16 ∧ s.cfg.role = .shredder
      ∧ Hazard.rank s.hazard.line < 2 ∧ (∃ e ∈ s.custody.list, e.pack.token = p.token)) ∧
    (∃ (s : State) (p : PackRecord) (m : Summary), s.handoff.expect = none ∧ s.custody.list.length < 16
      ∧ s.cfg.role = .shredder ∧ Hazard.rank s.hazard.line < 2 ∧ (∀ e ∈ s.custody.list, e.pack.token ≠ p.token)
      ∧ p.hops ≠ 15 ∧ p.summary = some m ∧ m.verdict = .discharged ∧ m.restVolts ≤ s.cfg.acceptVolts
      ∧ p.damaged = false ∧ s.chamber.state = .inert) ∧
    (∃ (s : State) (p : PackRecord), s.handoff.expect = none ∧ s.custody.list.length < 16 ∧ s.cfg.role = .quarantine
      ∧ p.hops = 15) :=
  ⟨⟨{ at_ .transfer with handoff := { Handoff.reset with expect := some ⟨pack 1, 5⟩ } }, by decide⟩,
   ⟨holding ((List.range 16).map fun n => entry n .ready) (at_ .transfer), by decide⟩,
   ⟨channelsAs (channelIn .done) true (at_ .discharge), by decide⟩,
   ⟨offering .hold (holding ((List.range 15).map fun n => entry n .ready) (at_ .transfer)) |>
      fun s => { s with handoff := Handoff.reset, custody :=
        { Custody.reset with list := (List.range 15).map fun n => entry n .ready } }, by decide⟩,
   ⟨holding [entry 1 .ready] (at_ .shredder), pack 1, by decide⟩,
   ⟨{ at_ .shredder with chamber := { Chamber.reset with state := .inert },
                         cfg := { Config.blank with role := .shredder, acceptVolts := 100 } }, goodPack, summary, by decide⟩,
   ⟨at_ .quarantine, { pack 1 with hops := 15 }, by decide⟩⟩

theorem witness_OfferIsDecided :
    (∃ (p : PackRecord) (rest : List Telegram) (s : State) (r : Reason), s.link.rx = ⟨5, 2, .offer p⟩ :: rest
      ∧ 5 ≠ s.loader.own ∧ s.running ∧ s.link.custody.length < 4 ∧ refusalReason s p = some r) ∧
    (∃ (p : PackRecord) (rest : List Telegram) (s : State), s.link.rx = ⟨5, 2, .offer p⟩ :: rest
      ∧ 5 ≠ s.loader.own ∧ s.running ∧ s.link.custody.length < 4 ∧ refusalReason s p = none) ∧
    (∃ (p : PackRecord) (rest : List Telegram) (s : State), s.link.rx = ⟨5, 2, .offer p⟩ :: rest
      ∧ 5 ≠ s.loader.own ∧ ¬ s.running) :=
  ⟨⟨pack 1, [], hearing (.offer (pack 1)) (holding [entry 1 .ready] (at_ .transfer)), .duplicate, by decide⟩,
   ⟨pack 1, [], hearing (.offer (pack 1)) (at_ .transfer), by decide⟩,
   ⟨pack 1, [], hearing (.offer (pack 1)) (inPhase .test (at_ .transfer)), by decide⟩⟩

theorem five : 5 ≠ (at_ .transfer).loader.own := by decide
theorem none_queued : (at_ .transfer).link.custody.length < 4 := by decide

theorem witness_AcceptReleasesPack : ∀ line : Hazard,
    (∃ (tok : Token) (rest : List Telegram) (s : State), s.link.rx = ⟨5, 2, .accept tok⟩ :: rest ∧ 5 ≠ s.loader.own
      ∧ s.running ∧ s.link.custody.length < 4 ∧ s.handoff.offer = some ⟨tok, 5⟩
      ∧ requestApplies s tok .offered = true ∧ s.hazard.line = line) ∧
    (∃ (tok : Token) (rest : List Telegram) (s : State), s.link.rx = ⟨5, 2, .accept tok⟩ :: rest ∧ 5 ≠ s.loader.own
      ∧ s.running ∧ s.link.custody.length < 4 ∧ s.handoff.offer ≠ some ⟨tok, 5⟩) ∧
    (∃ (tok : Token) (rest : List Telegram) (s : State) (e : Entry), s.link.rx = ⟨5, 2, .accept tok⟩ :: rest
      ∧ 5 ≠ s.loader.own ∧ s.running ∧ s.link.custody.length < 4 ∧ s.handoff.offer = some ⟨tok, 5⟩
      ∧ findEntry s tok = some e ∧ e.state = .adrift ∧ s.hazard.line = line) :=
  fun line =>
    ⟨⟨⟨3, 1⟩, [], hearing (.accept ⟨3, 1⟩) (offering line (at_ .transfer)), rfl, five, rfl, none_queued, rfl, rfl, rfl⟩,
     ⟨⟨3, 2⟩, [], hearing (.accept ⟨3, 2⟩) (offering line (at_ .transfer)), rfl, five, rfl, none_queued,
      fun h => nomatch h⟩,
     ⟨⟨3, 1⟩, [], hearing (.accept ⟨3, 1⟩) (holding [entry 1 .adrift] (offering line (at_ .transfer))), entry 1 .adrift,
      rfl, five, rfl, none_queued, rfl, rfl, rfl, rfl⟩⟩

theorem witness_RefuseAndWithdrawEndWaits :
    (∃ (tok : Token) (r : Reason) (rest : List Telegram) (s : State), s.link.rx = ⟨5, 2, .refuse tok r⟩ :: rest
      ∧ 5 ≠ s.loader.own ∧ s.running ∧ s.handoff.offer = some ⟨tok, 5⟩ ∧ requestApplies s tok .offered = true) ∧
    (∃ (tok : Token) (r : Reason) (rest : List Telegram) (s : State), s.link.rx = ⟨5, 2, .refuse tok r⟩ :: rest
      ∧ 5 ≠ s.loader.own ∧ s.running ∧ s.handoff.offer ≠ some ⟨tok, 5⟩) ∧
    (∃ (tok : Token) (rest : List Telegram) (s : State) (x : Expectation), s.link.rx = ⟨5, 2, .withdraw tok⟩ :: rest
      ∧ 5 ≠ s.loader.own ∧ s.running ∧ s.handoff.expect = some x ∧ x.pack.token = tok) ∧
    (∃ (tok : Token) (rest : List Telegram) (s : State) (x : Expectation), s.link.rx = ⟨5, 2, .withdraw tok⟩ :: rest
      ∧ 5 ≠ s.loader.own ∧ s.running ∧ s.handoff.expect = some x ∧ x.pack.token ≠ tok) ∧
    (∃ (tok : Token) (r : Reason) (rest : List Telegram) (s : State) (e : Entry),
      s.link.rx = ⟨5, 2, .refuse tok r⟩ :: rest ∧ 5 ≠ s.loader.own ∧ s.running ∧ s.handoff.offer = some ⟨tok, 5⟩
        ∧ findEntry s tok = some e ∧ e.state = .adrift) ∧
    (∃ (o : Offer) (s : State), s.running ∧ Role.offers s.cfg.role = true ∧ s.handoff.offer = some o
      ∧ Hazard.rank s.hazard.line = 2 ∧ requestApplies s o.token .offered = true ∧ s.link.custody.length < 4) ∧
    (∃ (o : Offer) (s : State), s.running ∧ Role.offers s.cfg.role = true ∧ s.handoff.offer = some o
      ∧ Hazard.rank s.hazard.line = 1) ∧
    (∃ (o : Offer) (s : State), s.running ∧ Role.offers s.cfg.role = true ∧ s.handoff.offer = some o
      ∧ Hazard.rank s.hazard.line = 3 ∧ requestApplies s o.token .offered = false) :=
  ⟨⟨⟨3, 1⟩, .full, [], hearing (.refuse ⟨3, 1⟩ .full) (offering .clear (at_ .transfer)), by decide⟩,
   ⟨⟨3, 2⟩, .full, [], hearing (.refuse ⟨3, 2⟩ .full) (offering .clear (at_ .transfer)), by decide⟩,
   ⟨⟨3, 1⟩, [], hearing (.withdraw ⟨3, 1⟩)
      { at_ .transfer with handoff := { Handoff.reset with expect := some ⟨pack 1, 5⟩ } }, ⟨pack 1, 5⟩, by decide⟩,
   ⟨⟨3, 2⟩, [], hearing (.withdraw ⟨3, 2⟩)
      { at_ .transfer with handoff := { Handoff.reset with expect := some ⟨pack 1, 5⟩ } }, ⟨pack 1, 5⟩, by decide⟩,
   ⟨⟨3, 1⟩, .full, [], hearing (.refuse ⟨3, 1⟩ .full) (holding [entry 1 .adrift] (offering .clear (at_ .transfer))),
    entry 1 .adrift, by decide⟩,
   ⟨⟨⟨3, 1⟩, 5⟩, offering .hold (at_ .transfer), by decide⟩,
   ⟨⟨⟨3, 1⟩, 5⟩, offering .caution (at_ .transfer), by decide⟩,
   ⟨⟨⟨3, 1⟩, 5⟩, holding [entry 1 .adrift] (offering .stop (at_ .transfer)), by decide⟩⟩

theorem witness_ArrivedHandsEntryOver : ∀ st : EntryState,
    ∃ (tok : Token) (rest : List Telegram) (s : State) (e : Entry), s.link.rx = ⟨5, 2, .arrived tok⟩ :: rest
      ∧ 5 ≠ s.loader.own ∧ s.running ∧ findEntry s tok = some e ∧ e.state = st :=
  fun st => ⟨⟨3, 1⟩, [], hearing (.arrived ⟨3, 1⟩) (holding [entry 1 st] (at_ .transfer)), entry 1 st, rfl, five, rfl,
    rfl, rfl⟩

theorem witness_LostEntriesAreRecorded :
    (∃ (e : Entry) (s : State), s.running ∧ findEntry s e.pack.token = some e ∧ e.state = .adrift
      ∧ e.adrift = some 0 ∧ (Tally.fillingBank s.tally).length = 31) ∧
    (∀ st : EntryState, ∃ (tok : Token) (rest : List Telegram) (s : State) (e : Entry),
      s.link.rx = ⟨5, 2, .missing tok⟩ :: rest ∧ 5 ≠ s.loader.own ∧ s.running ∧ findEntry s tok = some e
        ∧ e.state = st) :=
  ⟨⟨{ entry 1 .adrift with adrift := some 0 },
    { holding [{ entry 1 .adrift with adrift := some 0 }] (at_ .transfer) with
      tally := { Tally.reset with bankA := List.replicate 31 (tallyRecord (pack 9) 0 .removed none (at_ .transfer)) } },
    by decide⟩,
   fun st => ⟨⟨3, 1⟩, [], hearing (.missing ⟨3, 1⟩) (holding [entry 1 st] (at_ .transfer)), entry 1 st, rfl, five,
     rfl, rfl, rfl⟩⟩

/-! ## Witnesses: peer view -/

/-- A STATUS with fresh start. -/
def status : StatusFields :=
  { role := .transfer, phase := .run, hazard := .clear, atmos := .inactive, free := 16, count := 0, flags := .clear,
    due := false, clamped := false, fresh := true, period := 255, seq := 255 }

theorem witness_PeerTelegramsUpdateEntry :
    (∃ (p : PeerId) (f : StatusFields) (rest : List Telegram) (s : State), s.link.rx = ⟨p.val + 1, 2, .status f⟩ :: rest
      ∧ p.val + 1 ≠ s.loader.own ∧ s.loader.phase = .join) ∧
    (∃ (p : PeerId) (f : StatusFields) (rest : List Telegram) (s : State), s.link.rx = ⟨p.val + 1, 2, .status f⟩ :: rest
      ∧ p.val + 1 ≠ s.loader.own ∧ s.loader.phase = .faulted) ∧
    (∃ (p : PeerId) (rest : List Telegram) (s : State),
      s.link.rx = ⟨p.val + 1, 2, .alarm .thermal 0 0 .high .stop⟩ :: rest ∧ p.val + 1 ≠ s.loader.own ∧ s.running) ∧
    (∃ (p : PeerId) (rest : List Telegram) (s : State),
      s.link.rx = ⟨p.val + 1, 2, .alarm .thermal 0 0 .high .stop⟩ :: rest ∧ p.val + 1 ≠ s.loader.own
        ∧ s.loader.phase = .check) :=
  ⟨⟨4, status, [], hearing (.status status) (inPhase .join (at_ .transfer)), by decide⟩,
   ⟨4, status, [], hearing (.status status) (inPhase .faulted (at_ .transfer)), by decide⟩,
   ⟨4, [], hearing (.alarm .thermal 0 0 .high .stop) (at_ .transfer), by decide⟩,
   ⟨4, [], hearing (.alarm .thermal 0 0 .high .stop) (inPhase .check (at_ .transfer)), by decide⟩⟩

theorem witness_BadOriginsAreCounted :
    (∃ (t0 : Telegram) (rest : List Telegram) (s : State), s.link.rx = t0 :: rest ∧ t0.origin = s.loader.own
      ∧ s.running) ∧
    (∃ (t0 : Telegram) (rest : List Telegram) (s : State), s.link.rx = t0 :: rest ∧ t0.origin = s.loader.own
      ∧ s.loader.phase = .baseline) ∧
    (∃ (t0 : Telegram) (rest : List Telegram) (s : State), s.link.rx = t0 :: rest ∧ t0.origin = 0 ∧ s.loader.own ≠ 0
      ∧ s.loader.phase = .test) ∧
    (∃ (rest : List Telegram) (s : State), s.link.rx = ⟨5, 2, .report 1 0 true 0 []⟩ :: rest ∧ 5 ≠ s.loader.own) :=
  ⟨⟨⟨2, 2, .accept ⟨3, 1⟩⟩, [], { at_ .transfer with link := { Link.reset with rx := [⟨2, 2, .accept ⟨3, 1⟩⟩] } },
    by decide⟩,
   ⟨⟨2, 2, .accept ⟨3, 1⟩⟩, [],
    { inPhase .baseline (at_ .transfer) with link := { Link.reset with rx := [⟨2, 2, .accept ⟨3, 1⟩⟩] } }, by decide⟩,
   ⟨⟨0, 2, .accept ⟨3, 1⟩⟩, [],
    { inPhase .test (at_ .transfer) with link := { Link.reset with rx := [⟨0, 2, .accept ⟨3, 1⟩⟩] } }, by decide⟩,
   ⟨[], hearing (.report 1 0 true 0 []) (at_ .transfer), by decide⟩⟩

/-- Every peer heard and FRESH, its timers and the grace timer running out. -/
def heardPeers (s : State) : State :=
  { s with peers := { PeerView.reset with
    entries := Vector.replicate 31
      { PeerEntry.reset with heard := true, freshness := .fresh, stale := some 0, silent := some 0 },
    grace := some 0 } }

theorem witness_PeerTimersAgeEntries :
    (∃ (p : PeerId) (s : State), s.peers.entries[p].heard = true ∧ s.peers.entries[p].freshness = .fresh
      ∧ s.peers.entries[p].stale = some 0 ∧ s.peers.entries[p].silent = some 0) ∧
    (∃ (n : Nat) (s : State), s.running ∧ Role.offers s.cfg.role = true
      ∧ ∀ o, s.handoff.offer = some o → o.target ≠ n) ∧
    (∀ applies : Bool, ∃ (n : Nat) (o : Offer) (s : State), s.running ∧ Role.offers s.cfg.role = true
      ∧ s.handoff.offer = some o ∧ o.target = n ∧ requestApplies s o.token .offered = applies) ∧
    (∃ s : State, s.peers.grace = some 0) :=
  ⟨⟨30, heardPeers (at_ .transfer), by decide⟩, ⟨5, at_ .transfer, rfl, rfl, fun _ h => nomatch h⟩,
   (fun applies => ⟨5, ⟨⟨3, 1⟩, 5⟩,
      holding [entry 1 (if applies then .offered else .adrift)] (offering .clear (at_ .transfer)),
      by cases applies <;> decide⟩),
   ⟨heardPeers (at_ .transfer), by decide⟩⟩

/-! ## Witnesses: line bus -/

/-- The link given. -/
def linked (l : Link) (s : State) : State := { s with link := l }

/-- A telegram in a slot at a number of attempts. -/
def slot (p : Payload) (n : Nat) : Slot := ⟨⟨2, 5, p⟩, n⟩

theorem witness_StatusTimerQueuesStatus :
    (∃ s : State, joined s ∧ s.link.statusTimer = some 0 ∧ s.link.status = none ∧ s.running) ∧
    (∃ (s : State) (old : StatusFields), joined s ∧ s.link.statusTimer = some 0
      ∧ s.link.status = some ⟨⟨2, 5, .status old⟩, 7⟩ ∧ s.link.sending ≠ some .status) ∧
    (∃ s : State, joined s ∧ s.link.statusTimer = some 0 ∧ s.link.status.isSome = true
      ∧ s.link.sending = some .status ∧ s.link.heldStatus = none) :=
  ⟨⟨linked { Link.reset with on := true, state := .idle, statusTimer := some 0 } (at_ .transfer), by decide⟩,
   ⟨linked { Link.reset with on := true, state := .idle, statusTimer := some 0, status := some (slot (.status status) 7) }
      (at_ .transfer), status, by decide⟩,
   ⟨linked { Link.reset with on := true, state := .sending, sending := some .status, statusTimer := some 0,
                             status := some (slot (.status status) 7) } (at_ .transfer), by decide⟩⟩

theorem witness_AttemptSendsLowestClass :
    (∃ (s : State) (sl : Slot), s.link.on = true ∧ s.link.state = .idle ∧ s.link.alarms = [sl]) ∧
    (∃ (s : State) (sl : Slot), s.link.on = true ∧ s.link.state = .idle ∧ s.link.alarms = [] ∧ s.link.custody = [sl]) ∧
    (∃ (s : State) (sl : Slot), s.link.on = true ∧ s.link.state = .idle ∧ s.link.alarms = [] ∧ s.link.custody = []
      ∧ s.link.status = some sl) ∧
    (∃ (s : State) (sl : Slot), s.link.on = true ∧ s.link.state = .idle ∧ s.link.alarms = [] ∧ s.link.custody = []
      ∧ s.link.status = none ∧ s.link.report = some sl) ∧
    (∃ s : State, s.link.on = true ∧ s.link.state = .idle ∧ s.link.alarms = [] ∧ s.link.custody = []
      ∧ s.link.status = none ∧ s.link.report = none) ∧
    (∀ (c : TxClass) (held : Option Slot), ∃ (bits : List Bool) (s : State), s.link.state = .sending
      ∧ s.link.ltx = .frame bits ∧ s.link.sending = some c ∧ s.link.heldStatus = held) :=
  ⟨⟨linked { Link.reset with on := true, state := .idle, alarms := [slot (.accept ⟨3, 1⟩) 0] } (at_ .transfer),
    slot (.accept ⟨3, 1⟩) 0, by decide⟩,
   ⟨linked { Link.reset with on := true, state := .idle, custody := [slot (.accept ⟨3, 1⟩) 0] } (at_ .transfer),
    slot (.accept ⟨3, 1⟩) 0, by decide⟩,
   ⟨linked { Link.reset with on := true, state := .idle, status := some (slot (.status status) 0) } (at_ .transfer),
    slot (.status status) 0, by decide⟩,
   ⟨linked { Link.reset with on := true, state := .idle, report := some (slot (.report 1 0 true 0 []) 0) } (at_ .transfer),
    slot (.report 1 0 true 0 []) 0, by decide⟩,
   ⟨at_ .transfer, by decide⟩,
   fun c held =>
     ⟨[true], linked { Link.reset with state := .sending, sending := some c, ltx := .frame [true], heldStatus := held }
       (at_ .transfer), rfl, rfl, rfl, rfl⟩⟩

theorem witness_LossesAndBitErrorsEndAttempt : ∀ n : Nat,
    (∃ (sl : Slot) (driven : List Bool) (s : State), s.link.state = .sending ∧ s.link.sending = some .custody
      ∧ classHead s.link .custody = some sl ∧ s.link.ltx = .frame driven ∧ driven[8]? = some true
      ∧ s.link.heldStatus = none ∧ sl.attempts = n) ∧
    (∃ (sl : Slot) (driven : List Bool) (s : State), s.link.state = .sending ∧ s.link.sending = some .custody
      ∧ classHead s.link .custody = some sl ∧ s.link.ltx = .frame driven ∧ driven[9]? = some true
      ∧ dominantRun 0 (driven.take 9 ++ [false]) = 1 ∧ s.link.heldStatus = none ∧ sl.attempts = n) ∧
    (∃ (sl : Slot) (driven : List Bool) (s : State), s.link.state = .sending ∧ s.link.sending = some .custody
      ∧ classHead s.link .custody = some sl ∧ s.link.ltx = .frame driven ∧ driven[0]? = some false
      ∧ s.link.heldStatus = none ∧ sl.attempts = n) :=
  fun n =>
    ⟨⟨slot (.accept ⟨3, 1⟩) n, List.replicate 11 true,
      linked { Link.reset with on := true, state := .sending, sending := some .custody,
                               custody := [slot (.accept ⟨3, 1⟩) n], ltx := .frame (List.replicate 11 true) }
        (at_ .transfer), rfl, rfl, rfl, rfl, rfl, rfl, rfl⟩,
     ⟨slot (.accept ⟨3, 1⟩) n, List.replicate 11 true,
      linked { Link.reset with on := true, state := .sending, sending := some .custody,
                               custody := [slot (.accept ⟨3, 1⟩) n], ltx := .frame (List.replicate 11 true) }
        (at_ .transfer), rfl, rfl, rfl, rfl, rfl, rfl, rfl, rfl⟩,
     ⟨slot (.accept ⟨3, 1⟩) n, [false],
      linked { Link.reset with on := true, state := .sending, sending := some .custody,
                               custody := [slot (.accept ⟨3, 1⟩) n], ltx := .frame [false] }
        (at_ .transfer), rfl, rfl, rfl, rfl, rfl, rfl, rfl⟩⟩

/-- The largest telegram: an OFFER with a summary and four marks. -/
def largest : Telegram :=
  ⟨31, 2, .offer { goodPack with token := ⟨31, 16777215⟩, hops := 15, damaged := true, overflow := true, orphan := true,
                                 marks := List.replicate 4 ⟨.linkFault, 31⟩ }⟩

theorem witness_TelegramBytesReadBack : Telegram.wf largest ∧ (frameBytes largest).length = 30 := by
  refine ⟨⟨by decide, by decide, by decide, by decide, by decide, ?_, ?_⟩, by decide⟩
  · intro m h
    rw [List.eq_of_mem_replicate h]
    show 31 ≤ 31
    decide
  · intro m h
    cases h
    exact ⟨by decide, by decide, by decide, by decide, by decide, by decide, by decide⟩

theorem witness_FramesReachReceiveQueue :
    (∃ s : State, s.link.on = true ∧ LinkState.follows s.link.state = true ∧ largest.dest = s.loader.own
      ∧ s.link.rx.length = 3) ∧
    (∃ s : State, s.link.on = true ∧ LinkState.follows s.link.state = true ∧ largest.dest = s.loader.own
      ∧ 4 ≤ s.link.rx.length) ∧
    (∃ s : State, s.link.on = true ∧ LinkState.follows s.link.state = true ∧ largest.dest ≠ s.loader.own
      ∧ largest.dest ≠ 0 ∧ largest.origin ≠ s.loader.own ∧ largest.origin ≠ 0) ∧
    (∃ (bytes : List Byte) (n : Byte), bytes[3]? = some n ∧ n.toNat = 24 ∧ bytes.length = 6 + n.toNat
      ∧ bytes.drop (bytes.length - 2) ≠ beBytes 2 (crc16 (bytes.take (bytes.length - 2))).toNat) ∧
    (∃ (bytes : List Byte) (n : Byte), bytes[3]? = some n ∧ n.toNat ≤ 24 ∧ bytes.length = 6 + n.toNat
      ∧ bytes.drop (bytes.length - 2) = beBytes 2 (crc16 (bytes.take (bytes.length - 2))).toNat
      ∧ readTelegram (bytes.take (bytes.length - 2)) = none) :=
  ⟨⟨linked { Link.reset with on := true, state := .gap, rx := List.replicate 3 largest } (at_ .transfer), by decide⟩,
   ⟨linked { Link.reset with on := true, state := .idle, rx := List.replicate 4 largest } (at_ .transfer), by decide⟩,
   ⟨{ at_ .transfer with loader := { Loader.reset with own := 7 } }, by decide⟩,
   ⟨[0, 0, 0, 24] ++ List.replicate 26 0, 24, by decide, by decide, by decide, by decide +kernel⟩,
   ⟨[0, 0, 0, 0] ++ beBytes 2 (crc16 [0, 0, 0, 0]).toNat, 0, by decide +kernel, by decide, by decide +kernel,
    by decide +kernel, by decide +kernel⟩⟩

theorem witness_LineRunsAndFrameErrors :
    (∃ (bytes : List Byte) (ch : BitVec 11) (s : State), bytes.length = 3 ∧ s.link.on = true
      ∧ LinkState.follows s.link.state = true ∧ ch.getLsbD 10 = true) ∧
    (∃ ch : BitVec 11, ch.getLsbD 10 = false ∧ ch.getLsbD 0 = true ∧ (natBits 11 ch.toNat).count true % 2 = 0) ∧
    (∃ ch : BitVec 11, ch.getLsbD 10 = false ∧ ch.getLsbD 0 = false ∧ dominantRun 0 (natBits 11 ch.toNat) = 11) ∧
    (∃ n : Byte, n.toNat = 25) ∧
    (∃ (bits : List Bool) (s : State), s.link.on = true ∧ (∀ b ∈ bits, b = true) ∧ s.link.state = .settling
      ∧ s.link.recessive + bits.length = 12 ∧ bits ≠ []) ∧
    (∃ (bits : List Bool) (s : State), s.link.on = true ∧ (∀ b ∈ bits, b = true) ∧ s.link.state = .gap
      ∧ s.link.recessive + bits.length = 3 ∧ bits ≠ []) ∧
    (∃ (n : Nat) (s : State), s.link.on = true ∧ s.link.state = .emitting ∧ s.link.burstLeft = n) ∧
    (∃ (n : Nat) (s : State), s.link.on = true ∧ s.link.state = .emitting ∧ n + 1 = s.link.burstLeft) :=
  ⟨⟨[0, 0, 0], 0x400, at_ .transfer, by decide⟩, ⟨0x003, by decide⟩, ⟨0, by decide⟩, ⟨25, by decide⟩,
   ⟨List.replicate 12 true, linked { Link.reset with on := true, state := .settling } (at_ .transfer), by decide⟩,
   ⟨[true], linked { Link.reset with on := true, state := .gap, recessive := 2 } (at_ .transfer), by decide⟩,
   ⟨24, linked { Link.reset with on := true, state := .emitting, burstLeft := 24 } (at_ .transfer), by decide⟩,
   ⟨23, linked { Link.reset with on := true, state := .emitting, burstLeft := 24 } (at_ .transfer), by decide⟩⟩

/-! ## Witnesses: chamber, service, laws -/

/-- A chamber in a state at this oxygen before, and the one OXYGEN member of its zone reading this; the thresholds are 100
and 104, the open point 102. -/
def oxygenAt (st : Atmos) (before : Nat) (now : Int) (s : State) : State :=
  { s with
    cfg := { s.cfg with chamberZone := 1, o2Run := 100, o2Warn := 104, o2Alarm := 200,
                        points := (Vector.replicate 12 PointCfg.unused).set 0 { heatPoint with kind := .oxygen } },
    points := (Vector.replicate 12 Point.reset).set 0 { Point.reset with inBand := some now },
    chamber := { Chamber.reset with state := st, oxygen := some before } }

theorem witness_ChamberTimersAndFlood :
    (∀ st : Atmos, ∃ s : State, chamberActs s ∧ s.chamber.settle = some 0 ∧ s.chamber.purge = some 0
      ∧ s.chamber.state = st ∧ s.calm) ∧
    (∀ st : Atmos, ∃ s : State, chamberActs s ∧ s.chamber.state = st ∧ chamberOxygen s = some 100
      ∧ chamberOxygen s ≠ s.chamber.oxygen ∧ s.cfg.o2Run = 100 ∧ s.cfg.o2Warn = 104) ∧
    (∃ s : State, chamberActs s ∧ s.chamber.state = .inert ∧ chamberOxygen s = some 102
      ∧ chamberOxygen s ≠ s.chamber.oxygen ∧ s.cfg.o2Run = 100 ∧ s.cfg.o2Warn = 104) ∧
    (∃ s : State, chamberActs s ∧ s.chamber.state = .inert ∧ chamberOxygen s = some 103
      ∧ chamberOxygen s ≠ s.chamber.oxygen ∧ s.cfg.o2Run = 100 ∧ s.cfg.o2Warn = 104) ∧
    (∃ s : State, chamberActs s ∧ s.chamber.state = .inert ∧ chamberOxygen s = some 104
      ∧ chamberOxygen s ≠ s.chamber.oxygen ∧ s.cfg.o2Run = 100 ∧ s.cfg.o2Warn = 104) ∧
    (∀ (st : Atmos) (b : Bool), ∃ s : State, chamberActs s ∧ s.chamber.state = st
      ∧ ∀ y : ZoneId, s.chamber.confirmed[y] = if y = 1 then b else false) :=
  ⟨fun st => ⟨{ at_ .shredder with chamber := { Chamber.reset with state := st, settle := some 0, purge := some 0 } },
     ⟨rfl, rfl⟩, rfl, rfl, rfl, rfl⟩,
   fun st => ⟨oxygenAt st 101 100 (at_ .shredder), ⟨rfl, rfl⟩, rfl, by cases st <;> decide, by cases st <;> decide, rfl, rfl⟩,
   ⟨oxygenAt .inert 99 102 (at_ .shredder), by decide⟩, ⟨oxygenAt .inert 99 103 (at_ .shredder), by decide⟩,
   ⟨oxygenAt .inert 99 104 (at_ .shredder), by decide⟩,
   fun st b => ⟨{ at_ .shredder with chamber := { Chamber.reset with
       state := st, confirmed := (Vector.replicate 4 false).set 1 b } }, ⟨rfl, rfl⟩, rfl,
     by cases st <;> cases b <;> decide⟩⟩

/-- A running rotor given, with the labour time. -/
def turning (r : Rotor) (labour : Nat) (s : State) : State :=
  { s with rotor := { r with run := true }, cfg := { s.cfg with labourMs := labour }, clock := 10 }

theorem witness_RotorPulsesAndStall :
    (∃ s : State, mayTurn s) ∧ (∃ s : State, ¬ mayTurn s) ∧
    (∃ (samples : List Bool) (s : State), chamberActs s ∧ s.rotor.run = true ∧ s.pins.rotor.rises samples = true
      ∧ s.rotor.last = none) ∧
    (∀ (speed : Bool) (slow : Nat), ∃ (samples : List Bool) (s : State) (before : Clock), chamberActs s
      ∧ s.rotor.run = true ∧ s.pins.rotor.rises samples = true ∧ s.rotor.last = some before ∧ s.rotor.labour = false
      ∧ s.rotor.upToSpeed = speed ∧ s.rotor.slow = slow ∧ (s.clock - before).toNat = s.cfg.labourMs) ∧
    (∀ (speed : Bool) (slow : Nat), ∃ (samples : List Bool) (s : State) (before : Clock), chamberActs s
      ∧ s.rotor.run = true ∧ s.pins.rotor.rises samples = true ∧ s.rotor.last = some before ∧ s.rotor.labour = false
      ∧ s.rotor.upToSpeed = speed ∧ s.rotor.slow = slow ∧ (s.clock - before).toNat = s.cfg.labourMs + 1) ∧
    (∃ s : State, chamberActs s ∧ s.rotor.stall = some 0) ∧
    (∀ slow : Nat, ∃ (before : Clock) (s : State), s.rotor.last = some before ∧ s.rotor.upToSpeed = true
      ∧ (s.clock - before).toNat = s.cfg.labourMs + 1 ∧ s.rotor.slow = slow) ∧
    (∃ (before : Clock) (s : State), s.rotor.last = some before ∧ s.rotor.upToSpeed = true
      ∧ (s.clock - before).toNat = s.cfg.labourMs ∧ s.rotor.labour = true) :=
  ⟨⟨{ at_ .shredder with chamber := { Chamber.reset with state := .inert } }, by decide⟩, ⟨at_ .shredder, by decide⟩,
   ⟨up, turning Rotor.reset 0 (at_ .shredder), by decide⟩,
   fun speed slow => ⟨up, turning { Rotor.reset with last := some 0, upToSpeed := speed, slow := slow } 10 (at_ .shredder),
     0, ⟨rfl, rfl⟩, rfl, rfl, rfl, rfl, rfl, rfl, (by show BitVec.toNat (10#32 - 0#32) = 10; decide)⟩,
   fun speed slow => ⟨up, turning { Rotor.reset with last := some 0, upToSpeed := speed, slow := slow } 9 (at_ .shredder),
     0, ⟨rfl, rfl⟩, rfl, rfl, rfl, rfl, rfl, rfl, (by show BitVec.toNat (10#32 - 0#32) = 9 + 1; decide)⟩,
   ⟨{ at_ .shredder with rotor := { Rotor.reset with stall := some 0 } }, by decide⟩,
   fun slow => ⟨0, turning { Rotor.reset with last := some 0, upToSpeed := true, slow := slow } 9 (at_ .shredder), rfl, rfl,
     (by show BitVec.toNat (10#32 - 0#32) = 9 + 1; decide), rfl⟩,
   ⟨0, turning { Rotor.reset with last := some 0, upToSpeed := true, labour := true } 10 (at_ .shredder), by decide⟩⟩

/-- A shredder whose feed conditions hold. -/
def feeding (s : State) : State :=
  { s with chamber := { Chamber.reset with state := .inert }, rotor := { Rotor.reset with run := true },
           feed := { Feed.reset with timer := some 0 } }

theorem witness_FeedOpensAndTimesOut :
    (∃ (e : Entry) (s : State), feedingEntry s = none ∧ feedCandidate s = some e ∧ findEntry s e.pack.token = some e
      ∧ mayFeed s) ∧
    (∃ (e : Entry) (s : State), feedingEntry s = none ∧ feedCandidate s = some e ∧ findEntry s e.pack.token = some e
      ∧ ¬ mayFeed s) ∧
    (∃ (e : Entry) (s : State), feedingEntry s = some e ∧ findEntry s e.pack.token = some e ∧ mayFeed s ∧ chamberActs s
      ∧ s.feed.timer = some 0) ∧
    (∃ (e : Entry) (s b : State), feedingEntry s = some e ∧ findEntry s e.pack.token = some e ∧ ¬ mayFeed s ∧ mayFeed b) :=
  ⟨⟨{ entry 1 .ready with pack := goodPack },
    feeding (holding [{ entry 1 .ready with pack := goodPack }] (at_ .shredder)), by decide⟩,
   ⟨{ entry 1 .ready with pack := goodPack }, holding [{ entry 1 .ready with pack := goodPack }] (at_ .shredder),
    by decide⟩,
   ⟨entry 1 .feeding, feeding (holding [entry 1 .feeding] (at_ .shredder)), by decide⟩,
   ⟨entry 1 .feeding, holding [entry 1 .feeding] (at_ .shredder), feeding (at_ .shredder), by decide⟩⟩

/-- R141, R145: with ROTOR_LABOUR at HIGH the third slow period returns the FEEDING entry in its own event, though the stop of
the rotor then clears the labour condition. -/
theorem test_labour_closes_feed :
    let s := feeding (holding [{ entry 1 .feeding with pack := goodPack }] (at_ .shredder))
    let t := after (.rotorPulse up)
      { s with
        clock := 10, feed := { Feed.reset with gate := true, timer := some 5, peak := some 1 },
        rotor := { Rotor.reset with run := true, last := some 0, upToSpeed := true, slow := 2 },
        hazard := { s.hazard with causes := s.hazard.causes.set 8 (CauseRecord.reset .high) } }
    t.feed.returned = ⟨1, 1⟩ ∧ t.rotor.starts = ⟨1, 1⟩ := by decide +kernel

theorem witness_QueriesAreAnswered : ∀ item index part : Nat,
    (∃ s : State, s.link.rx = [⟨5, 0, .query item index part⟩] ∧ 5 ≠ s.loader.own) ∧
    (∃ s : State, s.link.rx = [⟨5, 2, .query item index part⟩] ∧ 5 ≠ s.loader.own ∧ s.link.report.isSome = true) ∧
    (∃ s : State, s.link.rx = [⟨5, 2, .query item index part⟩] ∧ 5 ≠ s.loader.own ∧ s.link.report = none
      ∧ s.loader.phase = .faulted) ∧
    (∃ s : State, s.link.rx = [⟨5, 2, .query item index part⟩] ∧ 5 ≠ s.loader.own ∧ s.link.report = none
      ∧ s.running ∧ turnNamesHeld s.tally 0 = true ∧ turnNamesHeld s.tally 2 = true
      ∧ turnNamesHeld s.tally 1 = false) :=
  fun item index part =>
    ⟨⟨linked { Link.reset with rx := [⟨5, 0, .query item index part⟩] } (at_ .transfer), rfl, five⟩,
     ⟨linked { Link.reset with rx := [⟨5, 2, .query item index part⟩], report := some (slot (.report 1 0 true 0 []) 0) }
        (at_ .transfer), rfl, five, rfl⟩,
     ⟨hearing (.query item index part) (inPhase .faulted (at_ .transfer)), rfl, five, rfl, rfl⟩,
     ⟨hearing (.query item index part) (at_ .transfer), rfl, five, rfl, rfl, rfl, rfl, rfl⟩⟩

theorem reset_startLaw : StartLaw State.reset :=
  ⟨fun _ => rfl, (fun _ h => nomatch h), fun _ => ⟨rfl, rfl, fun c => by cases c <;> rfl⟩⟩

theorem witness_StepKeepsCustodyLaws :
    ∃ s t : State, StartLaw s ∧ CapacityLaw s ∧ TokenLaw s ∧ step s = .next t ∧ BalanceLaw s ∧ TallyLaw s
      ∧ s.custody.list.length = 1 :=
  ⟨{ holding [entry 1 .ready] (at_ .transfer) with
     custody := { Custody.reset with
       list := [entry 1 .ready], counts := { Custody.reset.counts with arrived := ⟨1, 1⟩ } } },
   _, ⟨(fun h => nomatch h), (fun _ h => nomatch h), fun h => absurd rfl h⟩, by unfold CapacityLaw; decide,
   by unfold TokenLaw; decide, rfl, by unfold BalanceLaw; decide, by unfold TallyLaw; decide, rfl⟩

theorem witness_StepKeepsOutputLaws :
    (∃ s t : State, StartLaw s ∧ HazardLaw s ∧ OutputLaw s ∧ step s = .next t) ∧
    (∃ s t : State, StartLaw s ∧ CapacityLaw s ∧ TokenLaw s ∧ FeedLaw s ∧ step s = .next t
      ∧ (feedingEntry s).isSome = true) :=
  ⟨⟨State.reset, _, reset_startLaw, by unfold HazardLaw; decide, by unfold OutputLaw; decide, rfl⟩,
   ⟨{ feeding (holding [{ entry 1 .feeding with pack := goodPack }] (at_ .shredder)) with
      feed := { Feed.reset with gate := true } },
    _, ⟨(fun h => nomatch h), (fun _ h => nomatch h), fun h => absurd rfl h⟩, by unfold CapacityLaw; decide,
    by unfold TokenLaw; decide, by unfold FeedLaw; decide, rfl, by decide⟩⟩

theorem witness_StepKeepsQueueAndLoadLaws :
    (∃ s t : State, step s = .next t ∧ QueueLaw s ∧ LoadLaw s) ∧
    (∃ s t : State, step s = .next t ∧ DueLaw s ∧ s.running ∧ s.cfg.watermark = (Tally.fillingBank s.tally).length
      ∧ s.cfg.watermark = 1) :=
  ⟨⟨State.reset, _, rfl, by unfold QueueLaw; decide, by unfold LoadLaw; decide⟩,
   ⟨{ at_ .transfer with
      cfg := { Config.blank with watermark := 1 },
      tally := { Tally.reset with bankA := [tallyRecord (pack 9) 0 .removed none (at_ .transfer)], due := true } },
    _, rfl, (fun _ _ _ => rfl), rfl, rfl, rfl⟩⟩

end Sys2Proof.Tests
end

/-! Pack custody: the proofs of R5 to R24. First what the parts of the custody block do, each said once: the search for a
free serial, the ledger that the custody laws read, and what every operation writes into it. -/
section
namespace Sys2Proof.Machine

/-! ## The search for a free serial (R5, R6) -/

/-- The candidate that the search looks at after `i` others, from `n` on. -/
def nthCandidate (succ : Nat → Nat) : Nat → Nat → Nat
  | 0, n => n
  | i + 1, n => nthCandidate succ i (succ n)

theorem nthCandidate_succ (succ : Nat → Nat) : ∀ i n, nthCandidate succ (i + 1) n = succ (nthCandidate succ i n)
  | 0, _ => rfl
  | i + 1, n => nthCandidate_succ succ i (succ n)

/-- The search ends on a free candidate, or it has looked at all its candidates and found each one taken. -/
theorem firstFree_free_or_all_taken (succ : Nat → Nat) (taken : Nat → Bool) :
    ∀ fuel n, taken (firstFree succ taken fuel n) = false ∨ ∀ i < fuel, taken (nthCandidate succ i n) = true
  | 0, _ => .inr fun _ hi => absurd hi (Nat.not_lt_zero _)
  | fuel + 1, n => by
    unfold firstFree
    split
    · next hn =>
      rcases firstFree_free_or_all_taken succ taken fuel (succ n) with free | all
      · exact .inl free
      · refine .inr fun i hi => ?_
        cases i with
        | zero => exact hn
        | succ i => exact all i (Nat.lt_of_succ_lt_succ hi)
    · next hn => exact .inl (Bool.eq_false_iff.2 hn)

/-- Pigeonhole: distinct elements of a list are no more than its length. -/
theorem length_le_of_nodup_of_subset : ∀ {ns held : List Nat}, ns.Nodup → (∀ n ∈ ns, n ∈ held) →
    ns.length ≤ held.length
  | [], _, _, _ => Nat.zero_le _
  | n :: ns, held, nodup, sub => by
    obtain ⟨new, rest⟩ := List.nodup_cons.1 nodup
    have mem : n ∈ held := sub n List.mem_cons_self
    have shorter : ns.length ≤ (held.erase n).length := length_le_of_nodup_of_subset rest fun m hm =>
      (List.mem_erase_of_ne (ne_of_mem_of_not_mem hm new)).2 (sub m (List.mem_cons_of_mem n hm))
    rw [List.length_erase_of_mem mem] at shorter
    have := List.length_pos_of_mem mem
    rw [List.length_cons]
    omega

/-- Among more distinct candidates than there are numbers held, the search ends on a free one. -/
theorem firstFree_free {succ : Nat → Nat} {taken : Nat → Bool} {fuel n : Nat} {f : Nat → Nat} (held : List Nat)
    (hlen : held.length < fuel) (htaken : ∀ m, taken m = true → f m ∈ held)
    (hinj : ∀ i < fuel, ∀ j < fuel, f (nthCandidate succ i n) = f (nthCandidate succ j n) → i = j) :
    taken (firstFree succ taken fuel n) = false := by
  rcases firstFree_free_or_all_taken succ taken fuel n with free | all
  · exact free
  · have distinct : ((List.range fuel).map fun i => f (nthCandidate succ i n)).Nodup :=
      List.pairwise_map.2 (List.nodup_range.imp_of_mem fun hi hj ne e =>
        ne (hinj _ (List.mem_range.1 hi) _ (List.mem_range.1 hj) e))
    have among : ∀ m ∈ (List.range fuel).map fun i => f (nthCandidate succ i n), m ∈ held := fun m hm => by
      obtain ⟨i, hi, rfl⟩ := List.mem_map.1 hm
      exact htaken _ (all i (List.mem_range.1 hi))
    have := length_le_of_nodup_of_subset distinct among
    rw [List.length_map, List.length_range] at this
    omega

/-- What every candidate has that follows one that has it, the number found has. -/
theorem firstFree_of_closed {P : Nat → Prop} {succ : Nat → Nat} (taken : Nat → Bool) (h : ∀ n, P n → P (succ n)) :
    ∀ fuel n, P n → P (firstFree succ taken fuel n)
  | 0, _, hn => hn
  | fuel + 1, n, hn => by
    unfold firstFree
    split
    · exact firstFree_of_closed taken h fuel _ (h n hn)
    · exact hn

/-- The candidate after `i + 1` steps of a count that goes back to `low` after 8,388,607. -/
theorem nthCandidate_wrapping {succ : Nat → Nat} {low : Nat}
    (hs : ∀ n, succ n = if n ≥ 8388607 then low else n + 1) (hlow : low ≤ 1) (n : Nat) : ∀ i < 17, nthCandidate succ (i + 1) n =
      if min n 8388607 + i < 8388607 then n + i + 1 else low + (min n 8388607 + i - 8388607)
  | 0, _ => by
    rw [nthCandidate, nthCandidate, hs]
    split <;> split <;> omega
  | i + 1, hi => by
    rw [nthCandidate_succ, nthCandidate_wrapping hs hlow n i (by omega), hs]
    split <;> split <;> split <;> omega

/-- Seventeen candidates of such a count are distinct. -/
theorem nthCandidate_wrapping_injective {succ : Nat → Nat} {low : Nat}
    (hs : ∀ n, succ n = if n ≥ 8388607 then low else n + 1) (hlow : low ≤ 1) (n : Nat) :
    ∀ i < 17, ∀ j < 17, nthCandidate succ i n = nthCandidate succ j n → i = j := by
  have first : ∀ j < 16, n ≠ nthCandidate succ (j + 1) n := fun j hj => by
    rw [nthCandidate_wrapping hs hlow n j (by omega)]
    split <;> omega
  intro i hi j hj h
  cases i with
  | zero =>
    cases j with
    | zero => rfl
    | succ j => exact absurd h (first j (by omega))
  | succ i =>
    cases j with
    | zero => exact absurd h.symm (first i (by omega))
    | succ j =>
      rw [nthCandidate_wrapping hs hlow n i (by omega), nthCandidate_wrapping hs hlow n j (by omega)] at h
      split at h <;> split at h <;> omega

/-! ## Tokens held (R7, R9) -/

/-- The station holds as many tokens as packs. -/
theorem heldTokens_length (s : State) : (heldTokens s).length = occupancy s := by
  unfold heldTokens occupancy
  cases s.handoff.expect <;> simp

theorem serialHeld_iff (s : State) (n : Nat) : serialHeld s n = true ↔ n ∈ (heldTokens s).map Token.serial := by
  simp [serialHeld]

/-- Under the capacity law fewer serials are held than an allocation looks at. -/
theorem heldSerials_length_lt {s : State} (h : CapacityLaw s) : ((heldTokens s).map Token.serial).length < 17 := by
  rw [List.length_map, heldTokens_length]
  exact Nat.lt_succ_of_le h

/-- A serial that is not held is the serial of no held token. -/
theorem serial_ne_of_not_held {s : State} {n : Nat} (h : serialHeld s n = false) :
    ∀ t ∈ heldTokens s, t.serial ≠ n := fun t ht e => by
  have : serialHeld s n = true := (serialHeld_iff s n).2 (List.mem_map.2 ⟨t, ht, e⟩)
  rw [h] at this
  exact Bool.false_ne_true this

/-- R5: the serial of a new intake entry is free. -/
theorem allocIntake_free {s : State} (h : CapacityLaw s) : serialHeld s (allocIntake s) = false :=
  firstFree_free (f := id) _ (heldSerials_length_lt h) (fun m => (serialHeld_iff s m).1)
    (nthCandidate_wrapping_injective (fun _ => rfl) (Nat.le_refl 1) _)

/-- R6: the serial of a new orphan is free. -/
theorem allocOrphan_free {s : State} (h : CapacityLaw s) : serialHeld s (8388608 + allocOrphan s) = false :=
  firstFree_free (taken := fun n => serialHeld s (8388608 + n)) (f := fun n => 8388608 + n) _ (heldSerials_length_lt h)
    (fun _ => (serialHeld_iff s _).1) fun i hi j hj e =>
      nthCandidate_wrapping_injective (fun _ => rfl) (Nat.zero_le 1) _ i hi j hj (Nat.add_left_cancel e)

/-- R5: the intake serials stay in their range. -/
theorem allocIntake_range {s : State} (h₁ : 1 ≤ s.custody.nextSerial) (h₂ : s.custody.nextSerial ≤ 8388607) :
    1 ≤ allocIntake s ∧ allocIntake s ≤ 8388607 :=
  firstFree_of_closed (P := fun n => 1 ≤ n ∧ n ≤ 8388607) _
    (fun n hn => by unfold nextIntake; split <;> omega) _ _ ⟨h₁, h₂⟩

/-- R6: the orphan sequence stays in its range. -/
theorem allocOrphan_range {s : State} (h : s.custody.orphanSeq ≤ 8388607) : allocOrphan s ≤ 8388607 :=
  firstFree_of_closed (P := fun n => n ≤ 8388607) _ (fun n hn => by unfold nextOrphan; split <;> omega) _ _ h

/-- Settles O14: the search looks at 17 distinct candidates, and no more than 16 serials are held. -/
theorem allocatedTokensAreFree : Obligations.AllocatedTokensAreFree := by
  unfold Obligations.AllocatedTokensAreFree
  exact fun s h =>
    ⟨fun t ht => ⟨serial_ne_of_not_held (allocIntake_free h) t ht, serial_ne_of_not_held (allocOrphan_free h) t ht⟩,
      allocIntake_range, allocOrphan_range⟩

end Sys2Proof.Machine
end

section
namespace Sys2Proof.Machine

/-! ## The ledger: what the custody laws read -/

/-- What R7, R9, R23 and R177 read of a state: the tokens of the entries and of the open expectation, and the totals of the
packs that came, of those that went, of the records offered to the tally log, and of the removals that offer one. -/
structure Ledger where
  entries : List Token
  expected : Option Token
  came : BitVec 32
  went : BitVec 32
  recorded : BitVec 32
  retired : BitVec 32

/-- The ledger of a state. -/
def ledger (s : State) : Ledger :=
  { entries := s.custody.list.map (·.pack.token)
    expected := s.handoff.expect.map (·.pack.token)
    came := s.custody.counts.intake.session + s.custody.counts.arrived.session + s.custody.counts.orphan.session
    went := s.custody.counts.handed.session + s.custody.counts.lost.session + s.custody.counts.shredded.session
      + s.custody.counts.removed.session
    recorded := s.tally.appended + s.tally.dropped
    retired := s.custody.counts.shredded.lifetime + s.custody.counts.removed.lifetime
      + s.custody.counts.lost.lifetime }

namespace Ledger

/-- The tokens held. -/
def held (l : Ledger) : List Token := l.entries ++ l.expected.toList

/-- R9 and R7. -/
def Lawful (l : Ledger) : Prop := l.held.length ≤ 16 ∧ l.held.Nodup

/-- R23. -/
def Balanced (l : Ledger) : Prop := l.came = l.went + BitVec.ofNat 32 l.entries.length

/-- R177. -/
def Tallied (l : Ledger) : Prop := l.recorded = l.retired

/-- From a lawful ledger to a lawful one, the two balances kept. -/
def Keeps (l m : Ledger) : Prop :=
  l.Lawful → m.Lawful ∧ (l.Balanced → m.Balanced) ∧ (l.Tallied → m.Tallied)

theorem Keeps.refl (l : Ledger) : Keeps l l := fun h => ⟨h, id, id⟩

theorem Keeps.of_eq {l m : Ledger} (h : m = l) : Keeps l m := h ▸ Keeps.refl l

theorem Keeps.trans {l m n : Ledger} (h : Keeps l m) (k : Keeps m n) : Keeps l n := fun hl => by
  obtain ⟨hm, balanced, tallied⟩ := h hl
  obtain ⟨hn, balanced', tallied'⟩ := k hm
  exact ⟨hn, balanced' ∘ balanced, tallied' ∘ tallied⟩

/-- A new entry. -/
def enter (t : Token) (l : Ledger) : Ledger := { l with entries := l.entries ++ [t], came := l.came + 1 }

/-- The open expectation becomes an entry. -/
def arrive (t : Token) (l : Ledger) : Ledger := enter t { l with expected := none }

/-- An expectation opens. -/
def await (t : Token) (l : Ledger) : Ledger := { l with expected := some t }

/-- The expectation closes. -/
def unexpect (l : Ledger) : Ledger := { l with expected := none }

/-- An entry leaves for the next station. -/
def leave (t : Token) (l : Ledger) : Ledger := { l with entries := l.entries.filter (· != t), went := l.went + 1 }

/-- A removal is counted and its record offered to the tally log. -/
def record (l : Ledger) : Ledger := { l with recorded := l.recorded + 1, retired := l.retired + 1 }

/-- A pack that comes and goes in one event. -/
def pass (l : Ledger) : Ledger := { l with came := l.came + 1, went := l.went + 1 }

theorem enter_keeps {l : Ledger} {t : Token} (room : l.held.length < 16) (free : t ∉ l.held) : Keeps l (enter t l) := by
  rintro ⟨-, nodup⟩
  have hp : List.Perm (enter t l).held (t :: l.held) := by simp [held, enter]
  refine ⟨⟨?_, ?_⟩, fun balanced => ?_, id⟩
  · rw [hp.length_eq, List.length_cons]
    exact room
  · exact hp.nodup_iff.2 (List.nodup_cons.2 ⟨free, nodup⟩)
  · simp only [Balanced, enter, List.length_append, List.length_singleton, BitVec.ofNat_add] at balanced ⊢
    rw [balanced]
    ac_rfl

theorem arrive_keeps {l : Ledger} {t : Token} (h : l.expected = some t) : Keeps l (arrive t l) := by
  intro lawful
  have hh : (arrive t l).held = l.held := by simp [held, arrive, enter, h]
  refine ⟨by rwa [Lawful, hh], fun balanced => ?_, id⟩
  simp only [Balanced, arrive, enter, List.length_append, List.length_singleton, BitVec.ofNat_add] at balanced ⊢
  rw [balanced]
  ac_rfl

theorem await_keeps {l : Ledger} {t : Token} (h : l.expected = none) (room : l.held.length < 16)
    (free : t ∉ l.entries) : Keeps l (await t l) := by
  rintro ⟨-, nodup⟩
  simp only [held, h, Option.toList_none, List.append_nil] at room nodup
  refine ⟨⟨?_, ?_⟩, id, id⟩
  · simpa [held, await] using Nat.succ_le_of_lt room
  · exact List.perm_append_comm.nodup_iff.1 (List.nodup_cons.2 ⟨free, nodup⟩)

theorem unexpect_keeps (l : Ledger) : Keeps l (unexpect l) := by
  rintro ⟨length, nodup⟩
  simp only [held, List.length_append] at length
  refine ⟨⟨?_, ?_⟩, id, id⟩
  · simp only [held, unexpect, Option.toList_none, List.append_nil]
    omega
  · simpa [held, unexpect] using (List.nodup_append.1 nodup).1

/-- R7 makes it one entry that leaves. -/
theorem length_filter_ne_of_nodup {ts : List Token} {t : Token} (h : t ∈ ts) (nodup : ts.Nodup) :
    (ts.filter (· != t)).length + 1 = ts.length := by
  rw [← nodup.erase_eq_filter, List.length_erase_of_mem h]
  exact Nat.sub_add_cancel (List.length_pos_of_mem h)

theorem leave_keeps {l : Ledger} {t : Token} (h : t ∈ l.entries) : Keeps l (leave t l) := by
  rintro ⟨length, nodup⟩
  have hs : List.Sublist (leave t l).held l.held := List.filter_sublist.append (List.Sublist.refl _)
  refine ⟨⟨Nat.le_trans hs.length_le length, nodup.sublist hs⟩, fun balanced => ?_, id⟩
  have hl := length_filter_ne_of_nodup h (List.nodup_append.1 nodup).1
  simp only [Balanced, leave, ← hl, BitVec.ofNat_add] at balanced ⊢
  rw [balanced]
  ac_rfl

theorem record_keeps (l : Ledger) : Keeps l (record l) := fun lawful =>
  ⟨lawful, id, fun tallied => by simp only [Tallied, record] at tallied ⊢; rw [tallied]⟩

theorem pass_keeps (l : Ledger) : Keeps l (pass l) := fun lawful =>
  ⟨lawful, fun balanced => by simp only [Balanced, pass] at balanced ⊢; rw [balanced]; ac_rfl, id⟩

end Ledger

theorem ledger_held (s : State) : (ledger s).held = heldTokens s := by
  unfold Ledger.held ledger heldTokens
  cases s.handoff.expect <;> rfl

/-- R7, R9: the two laws are the ledger's. -/
theorem ledger_lawful_iff (s : State) : (ledger s).Lawful ↔ CapacityLaw s ∧ TokenLaw s := by
  rw [Ledger.Lawful, ledger_held, heldTokens_length, CapacityLaw, TokenLaw]

/-- R23: the custody balance is the ledger's. -/
theorem ledger_balanced_iff (s : State) : (ledger s).Balanced ↔ BalanceLaw s := by
  rw [Ledger.Balanced, show (ledger s).entries.length = s.custody.list.length from List.length_map _]
  rfl

/-- R177: the tally balance is the ledger's. -/
theorem ledger_tallied_iff (s : State) : (ledger s).Tallied ↔ TallyLaw s := Iff.rfl

/-- The ledger reads the custody block, the expectation and the tally's totals alone. -/
theorem ledger_congr {s t : State} (custody : t.custody = s.custody) (handoff : t.handoff.expect = s.handoff.expect)
    (tally : t.tally.appended + t.tally.dropped = s.tally.appended + s.tally.dropped) : ledger t = ledger s := by
  simp only [ledger, custody, handoff, tally]

/-- The hand-ons of a command write nothing into the ledger. -/
theorem HandOnFrame.ledger_eq {s t : State} (h : HandOnFrame s t) : ledger t = ledger s := by
  have entries : t.custody.list.map (·.pack.token) = s.custody.list.map (·.pack.token) := by
    have := congrArg (List.map Prod.fst) h.packs
    simpa [List.map_map, Function.comp_def, Entry.identity] using this
  have tally : t.tally = s.tally := h.outside .tally (by decide)
  simp only [ledger, entries, h.expect, tally]
  rw [← h.counts]

/-! ## Changes that the custody laws do not see -/

/-- What a change leaves alone that writes nothing into the ledger, enters no start phase, begins no round and makes no
cause active. -/
structure SameBooks (s t : State) : Prop where
  ledger : ledger t = ledger s
  loader : t.loader = s.loader
  round : ∀ r, t.scanner.round = some r → ∃ r', s.scanner.round = some r' ∧ r'.startup = r.startup
  causes : t.hazard.causes = s.hazard.causes

namespace SameBooks

theorem refl (s : State) : SameBooks s s := ⟨rfl, rfl, fun r h => ⟨r, h, rfl⟩, rfl⟩

theorem trans {s t u : State} (h : SameBooks s t) (k : SameBooks t u) : SameBooks s u where
  ledger := k.ledger.trans h.ledger
  loader := k.loader.trans h.loader
  round r hr := by
    obtain ⟨r', hr', e'⟩ := k.round r hr
    obtain ⟨r'', hr'', e''⟩ := h.round r' hr'
    exact ⟨r'', hr'', e''.trans e'⟩
  causes := k.causes.trans h.causes

theorem of_scanner_eq {s t : State} (ledger : Machine.ledger t = Machine.ledger s) (loader : t.loader = s.loader)
    (scanner : t.scanner = s.scanner) (causes : t.hazard.causes = s.hazard.causes) : SameBooks s t :=
  ⟨ledger, loader, fun r h => ⟨r, scanner ▸ h, rfl⟩, causes⟩

/-- A hand-on that touches the custody list alone. -/
theorem of_custody {s t : State} (h : HandOnFrame s t) (k : OnlyTouches [.custody] s t) : SameBooks s t := by
  have hazard : t.hazard = s.hazard := k .hazard (by decide)
  exact of_scanner_eq h.ledger_eq (k .loader (by decide)) (k .scanner (by decide)) (by rw [hazard])

section
variable (s : State)

theorem onPins (f : Pins → Pins) : SameBooks s (s.onPins f) := of_scanner_eq rfl rfl rfl rfl
theorem onChannels (f : Vector Channel 4 → Vector Channel 4) : SameBooks s (s.onChannels f) :=
  of_scanner_eq rfl rfl rfl rfl
theorem onPoints (f : Vector Point 12 → Vector Point 12) : SameBooks s (s.onPoints f) := of_scanner_eq rfl rfl rfl rfl
theorem onZones (f : ZoneLogic → ZoneLogic) : SameBooks s (s.onZones f) := of_scanner_eq rfl rfl rfl rfl
theorem onChamber (f : Chamber → Chamber) : SameBooks s (s.onChamber f) := of_scanner_eq rfl rfl rfl rfl
theorem onRotor (f : Rotor → Rotor) : SameBooks s (s.onRotor f) := of_scanner_eq rfl rfl rfl rfl
theorem onFeed (f : Feed → Feed) : SameBooks s (s.onFeed f) := of_scanner_eq rfl rfl rfl rfl
theorem onPeers (f : PeerView → PeerView) : SameBooks s (s.onPeers f) := of_scanner_eq rfl rfl rfl rfl
theorem onLink (f : Link → Link) : SameBooks s (s.onLink f) := of_scanner_eq rfl rfl rfl rfl
theorem onResponder (f : Responder → Responder) : SameBooks s (s.onResponder f) := of_scanner_eq rfl rfl rfl rfl

theorem onHazard (f : Evaluator → Evaluator) (h : (f s.hazard).causes = s.hazard.causes) :
    SameBooks s (s.onHazard f) := of_scanner_eq rfl rfl rfl h

theorem onHandoff (f : Handoff → Handoff) (h : (f s.handoff).expect = s.handoff.expect) :
    SameBooks s (s.onHandoff f) := of_scanner_eq (ledger_congr rfl h rfl) rfl rfl rfl

theorem onTally (f : Tally → Tally)
    (h : (f s.tally).appended + (f s.tally).dropped = s.tally.appended + s.tally.dropped) :
    SameBooks s (s.onTally f) := of_scanner_eq (ledger_congr rfl rfl h) rfl rfl rfl

theorem onScanner (f : Scanner → Scanner)
    (h : ∀ r, (f s.scanner).round = some r → ∃ r', s.scanner.round = some r' ∧ r'.startup = r.startup) :
    SameBooks s (s.onScanner f) := ⟨rfl, rfl, h, rfl⟩

theorem onScanner_timers (f : Scanner → Scanner) (h : (f s.scanner).round = s.scanner.round) :
    SameBooks s (s.onScanner f) := onScanner s f fun r hr => ⟨r, h ▸ hr, rfl⟩

theorem requestState (t : Token) (a b : EntryState) (f : Entry → Entry)
    (h : ∀ e, Entry.identity (f e) = Entry.identity e) : SameBooks s (requestState t a b f s) :=
  of_custody (requestState_frame s t a b f h) (requestState_only s t a b f)

theorem flagLinkError : SameBooks s (flagLinkError s) := by
  unfold Machine.flagLinkError
  split
  · exact onHazard s _ rfl
  · exact refl s

theorem flagPointAlarm : SameBooks s (flagPointAlarm s) := by
  unfold Machine.flagPointAlarm
  split
  · exact onHazard s _ rfl
  · exact refl s

/-- R145: the return of a FEEDING entry. -/
theorem returnFeed (e : Entry) : SameBooks s (returnFeed e s) :=
  ((onFeed s _).trans (requestState _ _ _ _ id fun _ => rfl)).trans (onFeed _ _)

/-- R145: the closing of FEED with a change. -/
theorem closing (r : Fx) : SameBooks r.1 (r.closing s).1 :=
  Fx.closing_keeps (R := SameBooks r.1) (fun e t h => h.trans (returnFeed t e)) s r (refl _)

end

end SameBooks

end Sys2Proof.Machine
end

section
namespace Sys2Proof.Machine

/-! ## What every step keeps -/

/-- R186, R190: what the start law says of a part before RUN: no pack held or expected, and no cause active. -/
def Vacant (s : State) : Prop :=
  s.custody.list = [] ∧ s.handoff.expect = none ∧ ∀ c : Cause, s.hazard.causes[Cause.index c].active = false

theorem Vacant.of_ledger {s t : State} (h : Vacant s) (books : ledger t = ledger s)
    (active : ∀ c : Cause, t.hazard.causes[Cause.index c].active = s.hazard.causes[Cause.index c].active) :
    Vacant t := by
  obtain ⟨list, expect, inactive⟩ := h
  have entries := congrArg Ledger.entries books
  have expected := congrArg Ledger.expected books
  simp only [ledger, list, List.map_nil, List.map_eq_nil_iff] at entries
  simp only [ledger, expect, Option.map_none, Option.map_eq_none_iff] at expected
  exact ⟨entries, expected, fun c => (active c).trans (inactive c)⟩

/-- R186: a part not in LOAD is not held in reset. -/
theorem StartLaw.not_held {s : State} (h : StartLaw s) (load : s.loader.phase ≠ .load) : s.loader.held = false :=
  Bool.eq_false_iff.2 fun held => load (h.1 held)

/-- R93, R190: outside TEST and RUN no round is in progress. -/
theorem StartLaw.no_round {s : State} (h : StartLaw s) (test : s.loader.phase ≠ .test) (run : s.loader.phase ≠ .run) :
    s.scanner.round = none := by
  obtain ⟨-, round, -⟩ := h
  cases hr : s.scanner.round with
  | none => rfl
  | some r =>
    have phase := round r hr
    split at phase
    · exact absurd phase test
    · exact absurd phase run

/-- R93: in RUN the round in progress is no start-up round. -/
theorem StartLaw.noStartupRound {s : State} (h : StartLaw s) (run : s.running) : noStartupRound s := fun r hr => by
  have phase := h.2.1 r hr
  split at phase
  · rw [State.running, phase] at run
    cases run
  · next e => exact Bool.eq_false_iff.2 e

theorem StartLaw.vacant {s : State} (h : StartLaw s) (run : s.loader.phase ≠ .run) : Vacant s := h.2.2 run

/-- The start law before RUN and outside TEST. -/
theorem StartLaw.of_vacant {t : State} (held : t.loader.held = true → t.loader.phase = .load)
    (round : t.scanner.round = none) (vacant : Vacant t) : StartLaw t :=
  ⟨held, fun r hr => absurd (round.symm.trans hr) (Option.some_ne_none r).symm, fun _ => vacant⟩

/-- The start law in RUN. -/
theorem StartLaw.of_running {t : State} (held : t.loader.held = false) (run : t.running)
    (round : Machine.noStartupRound t) : StartLaw t :=
  ⟨fun h => absurd (held.symm.trans h) Bool.false_ne_true, fun r hr => (by rw [round r hr]; exact run),
    fun h => absurd run h⟩

theorem StartLaw.of_sameBooks {s t : State} (h : StartLaw s) (k : SameBooks s t) : StartLaw t := by
  obtain ⟨held, round, vacant⟩ := h
  refine ⟨?_, fun r hr => ?_, ?_⟩
  · rw [k.loader]; exact held
  · obtain ⟨r', hr', e⟩ := k.round r hr
    rw [k.loader, ← e]
    exact round r' hr'
  · rw [k.loader]
    exact fun run => Vacant.of_ledger (vacant run) k.ledger fun c => by rw [k.causes]

/-- The laws that a step keeps and needs: the start law, the capacity law and the token law. -/
structure Sound (s : State) : Prop where
  start : StartLaw s
  lawful : (ledger s).Lawful

/-- A change that keeps the start law, the capacity law and the token law, and the two balances with them. -/
def KeepsLaws (s t : State) : Prop := Sound s → StartLaw t ∧ Ledger.Keeps (ledger s) (ledger t)

namespace KeepsLaws

theorem refl (s : State) : KeepsLaws s s := fun h => ⟨h.start, .refl _⟩

theorem trans {s t u : State} (h : KeepsLaws s t) (k : KeepsLaws t u) : KeepsLaws s u := fun sound => by
  obtain ⟨start, keeps⟩ := h sound
  obtain ⟨start', keeps'⟩ := k ⟨start, (keeps sound.lawful).1⟩
  exact ⟨start', keeps.trans keeps'⟩

theorem of_sameBooks {s t : State} (h : SameBooks s t) : KeepsLaws s t := fun sound =>
  ⟨sound.start.of_sameBooks h, .of_eq h.ledger⟩

/-- What is left to show of a change that starts at a sound state. -/
theorem of_start {s t : State} (h : StartLaw s → KeepsLaws s t) : KeepsLaws s t := fun sound => h sound.start sound

/-- R186, R188, R190: a change of the start phase before RUN, with no round left in progress. -/
theorem of_phase {s t : State} (run : s.loader.phase ≠ .run) (books : ledger t = ledger s)
    (held : t.loader.held = true → t.loader.phase = .load) (round : StartLaw s → t.scanner.round = none)
    (active : ∀ c : Cause, t.hazard.causes[Cause.index c].active = s.hazard.causes[Cause.index c].active) :
    KeepsLaws s t := fun sound =>
  ⟨.of_vacant held (round sound.start) ((sound.start.vacant run).of_ledger books active), .of_eq books⟩

/-- R91, R126: in RUN the hand-ons keep the laws, since they leave the loader and the ledger alone. -/
theorem of_frame {s t : State} (run : s.running) (h : HandOnFrame s t) : KeepsLaws s t := fun sound => by
  obtain ⟨loader, round⟩ := h.loader (sound.start.noStartupRound run)
  refine ⟨.of_running ?_ ?_ round, .of_eq h.ledger_eq⟩
  · rw [loader]
    exact sound.start.not_held (by rw [show s.loader.phase = .run from run]; decide)
  · rw [State.running, loader]
    exact run

/-- A change of the custody block in RUN. -/
theorem of_running {s t : State} (run : s.running) (loader : t.loader = s.loader) (scanner : t.scanner = s.scanner)
    (h : Ledger.Keeps (ledger s) (ledger t)) : KeepsLaws s t := fun sound => by
  refine ⟨.of_running ?_ ?_ ?_, h⟩
  · rw [loader]
    exact sound.start.not_held (by rw [show s.loader.phase = .run from run]; decide)
  · rw [State.running, loader]
    exact run
  · rw [Machine.noStartupRound, scanner]
    exact sound.start.noStartupRound run

end KeepsLaws

/-! ## The point scanner's rounds -/

section
variable (s : State)

theorem setPart_books (part : TestPart) (p : PointId) : SameBooks s (setPart part p s) :=
  .onScanner s _ fun r hr => by
    obtain ⟨r', hr', rfl⟩ := Option.map_eq_some_iff.1 hr
    exact ⟨r', hr', rfl⟩

theorem changePoint_books (p : PointId) (f : Point → Point) : SameBooks s (changePoint p f s) := .onPoints s _

theorem lampOff_books : SameBooks s (lampOff s) := .onScanner_timers s _ rfl

theorem skipPoint_books (p : PointId) : SameBooks s (skipPoint p s) := changePoint_books s p _

theorem passState_books (p : PointId) (st : PointReport) : SameBooks s (passState p st s) := by
  unfold passState
  dsimp only
  split
  · exact (changePoint_books s p _).trans (.flagPointAlarm _)
  · exact changePoint_books s p _

theorem refreshPoint_books (p : PointId) : SameBooks s (refreshPoint p s).1 := by
  unfold refreshPoint
  dsimp only
  split
  · exact .refl s
  · split
    · exact (changePoint_books s p _).trans (passState_books _ p _)
    · exact changePoint_books s p _

theorem lampOn_books (p : PointId) : SameBooks s (lampOn p s).1 :=
  ((((setPart_books s _ p).trans (.onScanner_timers _ _ rfl)).trans (changePoint_books _ p _))).trans
    (refreshPoint_books _ p)

theorem passTest_books (p : PointId) : SameBooks s (passTest p s) :=
  (((setPart_books s _ p).trans (lampOff_books _)).trans (.onScanner_timers _ _ rfl)).trans (changePoint_books _ p _)

theorem failTest_books (p : PointId) : SameBooks s (failTest p s).1 :=
  (((setPart_books s _ p).trans (lampOff_books _)).trans (changePoint_books _ p _)).trans (refreshPoint_books _ p)

theorem endRelease_books (p : PointId) (aborted : Bool) : SameBooks s (endRelease p aborted s).1 :=
  (((setPart_books s _ p).trans (.onScanner_timers _ _ rfl)).trans (changePoint_books _ p _)).trans
    (refreshPoint_books _ p)

theorem lookAgain_books (r : Round) : SameBooks s (lookAgain r s).1 := by
  unfold lookAgain
  generalize (if r.startup = true then _ else _ : Bool) = held
  split
  · exact .refl s
  · split
    · exact (skipPoint_books s _).trans (setPart_books _ _ _)
    · exact lampOn_books s _

theorem roundAgain_books : SameBooks s (roundAgain s).1 := by
  unfold roundAgain
  split
  · exact (setPart_books s _ _).trans (lookAgain_books _ _)
  · exact .refl s

theorem judgeTest_books (p : PointId) (fault : Bool) : SameBooks s (judgeTest p fault s).1 := by
  unfold judgeTest
  split
  · split
    · exact failTest_books s p
    · split
      · exact (passTest_books s p).trans (refreshPoint_books _ p)
      · exact refreshPoint_books s p
  · exact refreshPoint_books s p

theorem lookWhenSettled_books (p : PointId) : SameBooks s (lookWhenSettled p s).1 := by
  unfold lookWhenSettled
  split
  · split
    · exact lookAgain_books s _
    · exact .refl s
  · exact .refl s

theorem scanPoint_books (p : PointId) (reading : Int) : SameBooks s (scanPoint p reading s).1 :=
  ((changePoint_books s p _).trans (judgeTest_books _ p _)).trans (lookWhenSettled_books _ p)

theorem endWindow_books (q : PulseId) : SameBooks s (endWindow q s).1 :=
  (changePoint_books s _ _).trans (judgeTest_books _ _ _)

/-- R93, R190: the end of a round keeps the laws: BASELINE follows the start-up round, which runs in TEST alone. -/
theorem endRound_keeps {r : Round} (hr : s.scanner.round = some r) : KeepsLaws s (endRound r.startup s) :=
  .of_start fun start => by
    have phase := start.2.1 r hr
    cases startup : r.startup with
    | true =>
      rw [startup, if_pos rfl] at phase
      have held : (endRound true s).loader.held = false := start.not_held (by rw [phase]; decide)
      exact .of_phase (by rw [phase]; decide) rfl (fun h => absurd (held.symm.trans h) Bool.false_ne_true)
        (fun _ => rfl) fun _ => rfl
    | false =>
      refine .of_sameBooks (SameBooks.trans ?_
        (.onScanner_timers _ (fun k => { k with intervalTimer := some s.cfg.intervalMs }) rfl))
      exact .onScanner s _ fun _ h => absurd h.symm (Option.some_ne_none _)

theorem roundOver_keeps {r : Round} : ∀ (ps : List PointId) (s : State), s.scanner.round = some r →
    KeepsLaws s (roundOver r.startup ps s).1
  | [], s, hr => endRound_keeps s hr
  | p :: ps, s, hr => by
    unfold roundOver
    split
    · exact roundOver_keeps ps s hr
    · split
      · exact (KeepsLaws.of_sameBooks (skipPoint_books s p)).trans (roundOver_keeps ps _ hr)
      · split
        · exact .of_sameBooks (setPart_books s _ p)
        · split
          · exact .of_sameBooks (setPart_books s _ p)
          · exact .of_sameBooks (lampOn_books s p)

theorem roundFrom_keeps (n : Nat) : KeepsLaws s (roundFrom n s).1 := by
  unfold roundFrom
  split
  · next r hr => exact roundOver_keeps _ s hr
  · exact .refl s

/-- R93, R190: a round begins in its own phase. -/
theorem beginRound_keeps (startup : Bool) (h : s.loader.phase = if startup then .test else .run) :
    KeepsLaws s (beginRound startup s).1 := by
  refine KeepsLaws.trans
    (t := s.onScanner fun k => { k with round := some ⟨startup, 0, .waiting⟩, intervalTimer := none })
    (fun sound => ⟨⟨sound.start.1, fun r hr => ?_, sound.start.2.2⟩, .of_eq rfl⟩)
    (roundOver_keeps (r := ⟨startup, 0, .waiting⟩) allPoints _ rfl)
  cases hr
  exact h

end

/-! ## The hand-ons -/

section
variable (s : State)

theorem setLabour_books (b : Bool) : SameBooks s (setLabour b s).1 := by
  unfold setLabour
  split
  · exact .refl s
  · exact .onRotor s fun r => { r with labour := b }

/-- R91, R113, R126: before RUN a notice is taken by the point scanner's round alone; what the rotor and feed monitors do
touches no law. -/
theorem hand_keeps_of_not_running (run : ¬ s.running) (n : Notice) : KeepsLaws s (hand n s).1 := by
  have act : ¬ channelsAct s := fun h => run h.1
  have chamber : ¬ chamberActs s := fun h => run h.1
  have upstream : ¬ (s.running ∧ Role.offers s.cfg.role = true) := fun h => run h.1
  have search : candidateSearch s = quiet s := if_neg fun h => run h.1
  have idle {r : Fx} (h : r = quiet s) : KeepsLaws s r.1 := by rw [h]; exact .refl s
  cases n with
  | fact f => exact idle (if_neg run)
  | reassess => exact idle (if_pos run)
  | raise l => exact idle (if_neg run)
  | zoneConfirmed z p => exact idle (if_neg run)
  | zoneCleared z => exact idle (if_neg run)
  | channelsHazard => exact idle (if_neg act)
  | channelsFire z => exact idle (if_neg act)
  | assign => exact idle (if_neg act)
  | handoffHazard => exact idle (if_neg upstream)
  | search => exact idle search
  | downstreamLost n b => exact idle (if_neg upstream)
  | peerNews n =>
    refine idle (?_ : takePeerNews n s = _)
    unfold takePeerNews
    rw [search, ite_self]
  | scannerLook =>
    refine idle (?_ : scannerLook s = _)
    unfold scannerLook
    split
    · exact if_neg fun h => run h.1
    · rfl
  | roundFrom n => exact roundFrom_keeps s n
  | roundAgain => exact .of_sameBooks (roundAgain_books s)
  | zonePoint p st => exact idle (if_neg run)
  | zoneRestore => exact idle (if_neg run)
  | chamberConfirmed z => exact idle (if_neg chamber)
  | chamberCleared z => exact idle (if_neg chamber)
  | chamberRestore => exact idle (if_neg chamber)
  | oxygen => exact idle (if_neg fun h => chamber h.1)
  | rotorLook =>
    refine .of_sameBooks (?_ : SameBooks s (rotorLook s).1)
    unfold rotorLook
    rw [if_neg fun h : mayTurn s => chamber h.1]
    split
    · exact (SameBooks.onRotor s fun r => { r with run := false, stall := none, slow := 0 }).trans (setLabour_books _ false)
    · exact .refl s
  | feedLook =>
    refine .of_sameBooks (?_ : SameBooks s (feedLook s).1)
    have feed : ¬ mayFeed s := fun h => chamber h.1
    unfold feedLook
    split
    · rw [if_neg feed]
      exact .returnFeed s _
    · rw [if_neg feed]
      exact .refl s

theorem hand_keeps (n : Notice) : KeepsLaws s (hand n s).1 := by
  by_cases run : s.running
  · exact .of_frame run (hand_frame s n)
  · exact hand_keeps_of_not_running s run n

theorem take_keeps (n : Notice) : KeepsLaws s (take n s).1 :=
  (hand_keeps s n).trans (.of_sameBooks (.closing s _))

end

theorem finish_keepsLaws (r : Fx) : KeepsLaws r.1 (finish r) :=
  finish_keeps_all (P := fun t => KeepsLaws r.1 t) (fun n s h => h.trans (take_keeps s n)) (.refl _)

/-- A command whose every answer keeps the laws. -/
def AnswerKeeps (s : State) (a : Answer) : Prop := ∀ t, a = .next t → KeepsLaws s t

namespace AnswerKeeps

theorem next {s t : State} (h : KeepsLaws s t) : AnswerKeeps s (.next t) := fun _ e => by cases e; exact h

/-- A command's answer keeps the laws when its own effect does. -/
theorem done {s u : State} {r : Fx} (h : KeepsLaws s r.1) : AnswerKeeps s (Machine.done u r) :=
  next (h.trans ((KeepsLaws.of_sameBooks (.closing u r)).trans (finish_keepsLaws _)))

theorem refl (s : State) : AnswerKeeps s (.next s) := next (.refl s)

theorem nextBooks {s t : State} (h : SameBooks s t) : AnswerKeeps s (.next t) := next (.of_sameBooks h)

theorem doneBooks {s u : State} {r : Fx} (h : SameBooks s r.1) : AnswerKeeps s (Machine.done u r) :=
  done (.of_sameBooks h)

end AnswerKeeps

end Sys2Proof.Machine
end

section
namespace Sys2Proof.Machine

/-! ## The tally log's records (R22, R177) -/

@[simp] theorem Tally.setBank_appended (t : Tally) (n : BankName) (rs : List TallyRecord) :
    (Tally.setBank t n rs).appended = t.appended := by cases n <;> rfl

@[simp] theorem Tally.setBank_dropped (t : Tally) (n : BankName) (rs : List TallyRecord) :
    (Tally.setBank t n rs).dropped = t.dropped := by cases n <;> rfl

/-- R178: the watermark test sets TALLY_DUE or nothing. -/
theorem testWatermark_cases (s : State) :
    (testWatermark s).tally = s.tally ∨ (testWatermark s).tally = { s.tally with due := true } := by
  unfold testWatermark
  rw [State.onTally_tally]
  split
  · exact .inr rfl
  · exact .inl rfl

/-- R177: the record is appended to a filling bank with room. -/
theorem appendRecord_room {s : State} (r : TallyRecord) (h : (Tally.fillingBank s.tally).length < 32) :
    Tally.fillingBank (appendRecord r s).tally = Tally.fillingBank s.tally ++ [r]
      ∧ (appendRecord r s).tally.appended = s.tally.appended + 1
      ∧ (appendRecord r s).tally.dropped = s.tally.dropped := by
  unfold appendRecord
  rw [if_pos h]
  have filled : Tally.fillingBank { Tally.setBank s.tally s.tally.filling (Tally.fillingBank s.tally ++ [r]) with
      appended := s.tally.appended + 1 } = Tally.fillingBank s.tally ++ [r] := by
    cases hf : s.tally.filling <;> simp [Tally.fillingBank, Tally.bank, Tally.setBank, hf]
  rcases testWatermark_cases (s.onTally fun t =>
    { Tally.setBank t t.filling (Tally.fillingBank t ++ [r]) with appended := t.appended + 1 }) with e | e
  · rw [e]
    exact ⟨filled, rfl, Tally.setBank_dropped _ _ _⟩
  · rw [e]
    exact ⟨filled, rfl, Tally.setBank_dropped _ _ _⟩

/-- R177: with 32 records in the filling bank the record is dropped. -/
theorem appendRecord_full {s : State} (r : TallyRecord) (h : 32 ≤ (Tally.fillingBank s.tally).length) :
    (appendRecord r s).tally = { s.tally with dropped := s.tally.dropped + 1 } := by
  unfold appendRecord
  rw [if_neg (Nat.not_lt.2 h)]
  rfl

/-- R177: a record is appended or dropped, and one of the two totals rises. -/
theorem appendRecord_totals (s : State) (r : TallyRecord) :
    (appendRecord r s).tally.appended + (appendRecord r s).tally.dropped
      = s.tally.appended + s.tally.dropped + 1 := by
  rcases Nat.lt_or_ge (Tally.fillingBank s.tally).length 32 with room | full
  · obtain ⟨-, appended, dropped⟩ := appendRecord_room r room
    rw [appended, dropped]
    ac_rfl
  · rw [appendRecord_full r full]
    ac_rfl

theorem appendRecord_only (s : State) (r : TallyRecord) : OnlyTouches [.tally] s (appendRecord r s) := by
  unfold appendRecord testWatermark
  split <;> intro b <;> cases b <;> simp [Block.Same]

@[simp] theorem appendRecord_custody (s : State) (r : TallyRecord) : (appendRecord r s).custody = s.custody :=
  appendRecord_only s r .custody (by decide)

@[simp] theorem appendRecord_loader (s : State) (r : TallyRecord) : (appendRecord r s).loader = s.loader :=
  appendRecord_only s r .loader (by decide)

@[simp] theorem appendRecord_scanner (s : State) (r : TallyRecord) : (appendRecord r s).scanner = s.scanner :=
  appendRecord_only s r .scanner (by decide)

@[simp] theorem appendRecord_handoff (s : State) (r : TallyRecord) : (appendRecord r s).handoff = s.handoff :=
  appendRecord_only s r .handoff (by decide)

/-- What a terminal removal does to the tally log depends on the log, the watermark and the clock alone. -/
theorem appendRecord_tallyRecord {s t : State} (tally : s.tally = t.tally) (cfg : s.cfg = t.cfg)
    (clock : s.clock = t.clock) (p : PackRecord) (entered : Clock) (outcome : Removal) (peak : Option Nat) :
    (appendRecord (tallyRecord p entered outcome peak s) s).tally
      = (appendRecord (tallyRecord p entered outcome peak t) t).tally := by
  obtain ⟨⟩ := s
  obtain ⟨⟩ := t
  dsimp only at tally cfg clock
  subst tally cfg clock
  unfold appendRecord testWatermark tallyRecord
  dsimp only
  split <;> rfl

/-! ## What the custody operations write into the ledger -/

section
variable (s : State)

theorem appendEntry_ledger (e : Entry) :
    ledger (appendEntry e s) = { ledger s with entries := (ledger s).entries ++ [e.pack.token] } := by
  simp [ledger, appendEntry]

theorem removeEntry_ledger (t : Token) :
    ledger (removeEntry t s) = { ledger s with entries := (ledger s).entries.filter (· != t) } := by
  simp [ledger, removeEntry, List.filter_map, Function.comp_def]

theorem appendRecord_ledger (r : TallyRecord) :
    ledger (appendRecord r s) = { ledger s with recorded := (ledger s).recorded + 1 } := by
  simp [ledger, appendRecord_totals]

theorem ledger_closeExpectation : ledger (closeExpectation s) = (ledger s).unexpect := rfl

theorem ledger_bump_intake : ledger (countCustody (fun c => { c with intake := c.intake.bump }) s)
    = { ledger s with came := (ledger s).came + 1 } := by
  simp only [ledger, countCustody, State.onCustody_custody, State.onCustody_handoff, State.onCustody_tally, Count.bump,
    Ledger.mk.injEq, true_and, and_true]
  ac_rfl

theorem ledger_bump_arrived : ledger (countCustody (fun c => { c with arrived := c.arrived.bump }) s)
    = { ledger s with came := (ledger s).came + 1 } := by
  simp only [ledger, countCustody, State.onCustody_custody, State.onCustody_handoff, State.onCustody_tally, Count.bump,
    Ledger.mk.injEq, true_and, and_true]
  ac_rfl

theorem ledger_bump_handed : ledger (countCustody (fun c => { c with handed := c.handed.bump }) s)
    = { ledger s with went := (ledger s).went + 1 } := by
  simp only [ledger, countCustody, State.onCustody_custody, State.onCustody_handoff, State.onCustody_tally, Count.bump,
    Ledger.mk.injEq, true_and, and_true]
  ac_rfl

/-- R13: the orphan count. -/
theorem ledger_spendOrphan (seq : Nat) : ledger (spendOrphan seq s) = { ledger s with came := (ledger s).came + 1 } := by
  simp only [ledger, spendOrphan, countCustody, State.onCustody_custody, State.onCustody_handoff,
    State.onCustody_tally, Count.bump, Ledger.mk.injEq, true_and, and_true]
  ac_rfl

/-- The counts of R22, each of a removal that offers a record to the tally log. -/
inductive CountsRemoval : (CustodyCounts → CustodyCounts) → Prop
  | removed : CountsRemoval fun c => { c with removed := c.removed.bump }
  | shredded : CountsRemoval fun c => { c with shredded := c.shredded.bump }
  | lost : CountsRemoval fun c => { c with lost := c.lost.bump }

theorem ledger_bump_removal {count : CustodyCounts → CustodyCounts} (h : CountsRemoval count) :
    ledger (countCustody count s) =
      { ledger s with went := (ledger s).went + 1, retired := (ledger s).retired + 1 } := by
  cases h <;>
  · simp only [ledger, countCustody, State.onCustody_custody, State.onCustody_handoff, State.onCustody_tally,
      Count.bump, Ledger.mk.injEq, true_and]
    constructor <;> ac_rfl

/-- R22: a terminal removal takes its entry out and records it. -/
theorem retire_ledger (e : Entry) (outcome : Removal) (peak : Option Nat) {count : CustodyCounts → CustodyCounts}
    (h : CountsRemoval count) :
    ledger (retire e outcome peak count s) = ((ledger s).leave e.pack.token).record := by
  unfold retire
  rw [appendRecord_ledger, ledger_bump_removal _ h, removeEntry_ledger]
  rfl

theorem clearOfferOf_books (t : Token) : SameBooks s (clearOfferOf t s) :=
  .onHandoff s _ (by
    split
    · split <;> rfl
    · rfl)

/-- R19: a lost entry is taken out and recorded. -/
theorem loseEntry_ledger (e : Entry) : ledger (loseEntry e s).1 = ((ledger s).leave e.pack.token).record := by
  unfold loseEntry
  dsimp only
  rw [appendRecord_ledger, ledger_bump_removal _ .lost, (clearOfferOf_books _ _).ledger, removeEntry_ledger]
  rfl

end

/-! ## The custody operations keep the laws -/

section
variable {s : State}

theorem token_mem_entries {e : Entry} (h : e ∈ s.custody.list) : e.pack.token ∈ (ledger s).entries :=
  List.mem_map.2 ⟨e, h, rfl⟩

theorem held_length_lt (room : occupancy s < 16) : (ledger s).held.length < 16 := by
  rwa [ledger_held, heldTokens_length]

theorem not_mem_held {t : Token} (h : serialHeld s t.serial = false) : t ∉ (ledger s).held := by
  rw [ledger_held]
  exact fun ht => serial_ne_of_not_held h t ht rfl

theorem occupancy_lt_of_not_full (h : stationFull s = false) : occupancy s < 16 := by
  simpa [stationFull] using h

/-- R10, R12: an arrival. -/
theorem arrive_keeps (run : s.running) {x : Expectation} (h : s.handoff.expect = some x) :
    KeepsLaws s (arrive x s).1 := by
  have entered : KeepsLaws s (countCustody (fun c => { c with arrived := c.arrived.bump })
      (appendEntry (newEntry x.pack (entryStateOf s.cfg.role) s.clock) (closeExpectation s))) := by
    refine .of_running run rfl rfl ?_
    rw [ledger_bump_arrived, appendEntry_ledger, ledger_closeExpectation]
    exact Ledger.arrive_keeps (l := ledger s) (t := x.pack.token) (by simp [ledger, h])
  exact entered.trans (.of_frame run (queueCustody_frame _ _ _).1)

/-- R5, R11: an intake. -/
theorem takeIn_keeps (run : s.running) (room : occupancy s < 16) : KeepsLaws s (takeIn s).1 := by
  refine .of_running run rfl rfl ?_
  have free := not_mem_held (t := ⟨s.loader.own, allocIntake s⟩) (allocIntake_free (Nat.le_of_lt room))
  have books : ledger (takeIn s).1 = (ledger s).enter ⟨s.loader.own, allocIntake s⟩ := by
    unfold takeIn
    dsimp only
    rw [ledger_bump_intake, show ∀ u : State,
      ledger (u.onCustody fun c => { c with nextSerial := nextIntake (allocIntake s) }) = ledger u from fun _ => rfl,
      appendEntry_ledger]
    rfl
  rw [books]
  exact Ledger.enter_keeps (held_length_lt room) free

theorem appendOrphan_ledger (state : EntryState) (channel : Option ChannelId) :
    ledger (appendOrphan state channel s) = (ledger s).enter ⟨s.loader.own, 8388608 + allocOrphan s⟩ := by
  unfold appendOrphan
  rw [ledger_spendOrphan, appendEntry_ledger]
  rfl

/-- R6, R13: an orphan. -/
theorem appendOrphan_keeps (run : s.running) (room : occupancy s < 16) (state : EntryState)
    (channel : Option ChannelId) : KeepsLaws s (appendOrphan state channel s) := by
  refine .of_running run rfl rfl ?_
  rw [appendOrphan_ledger]
  exact Ledger.enter_keeps (held_length_lt room) (not_mem_held (allocOrphan_free (Nat.le_of_lt room)))

theorem overflowEntry_books : SameBooks s (overflowEntry s).1 := .of_scanner_eq rfl rfl rfl rfl

/-- R10: an ENTRY rise in RUN. -/
theorem takeEntry_keeps (run : s.running) : KeepsLaws s (takeEntry s).1 := by
  unfold takeEntry
  split
  · next x h => exact arrive_keeps run h
  · split
    · exact .of_sameBooks overflowEntry_books
    · next full =>
      have room := occupancy_lt_of_not_full (Bool.eq_false_iff.2 full)
      split
      · exact takeIn_keeps run room
      · exact appendOrphan_keeps run room _ _

/-- R20, R21, R22: a terminal removal of an entry of the list. -/
theorem retire_keeps (run : s.running) {e : Entry} (he : e ∈ s.custody.list) (outcome : Removal) (peak : Option Nat)
    {count : CustodyCounts → CustodyCounts} (h : CountsRemoval count) :
    KeepsLaws s (retire e outcome peak count s) := by
  refine .of_running run (appendRecord_loader _ _) (appendRecord_scanner _ _) ?_
  rw [retire_ledger s e outcome peak h]
  exact (Ledger.leave_keeps (token_mem_entries he)).trans (Ledger.record_keeps _)

/-- R19: the loss of an entry of the list. -/
theorem loseEntry_keeps (run : s.running) {e : Entry} (he : e ∈ s.custody.list) : KeepsLaws s (loseEntry e s).1 := by
  refine .of_running run (appendRecord_loader _ _) (appendRecord_scanner _ _) ?_
  rw [loseEntry_ledger]
  exact (Ledger.leave_keeps (token_mem_entries he)).trans (Ledger.record_keeps _)

theorem removalCandidate_mem {e : Entry} (h : removalCandidate s = some e) : e ∈ s.custody.list := by
  unfold removalCandidate at h
  split at h
  · exact List.mem_of_find?_eq_some h
  · exact List.mem_of_find?_eq_some h

/-- R20: a REMOVE rise. -/
theorem takeRemove_keeps (run : s.running) : KeepsLaws s (takeRemove s).1 := by
  unfold takeRemove
  split
  · next e h => exact retire_keeps run (removalCandidate_mem h) _ _ .removed
  · exact .of_sameBooks (.of_scanner_eq rfl rfl rfl rfl)

theorem shredOrphan_ledger : ledger (shredOrphan s).1 = (ledger s).pass.record := by
  unfold shredOrphan
  dsimp only
  rw [appendRecord_ledger, ledger_bump_removal _ .shredded, ledger_spendOrphan]
  rfl

/-- R21: a THROAT pulse. -/
theorem takeThroat_keeps (run : s.running) : KeepsLaws s (takeThroat s).1 := by
  unfold takeThroat
  split
  · next e h =>
    exact (KeepsLaws.of_sameBooks (.onFeed s _)).trans
      (retire_keeps (s := closeFeed s) run (List.mem_of_find?_eq_some h) _ _ .shredded)
  · split
    · next e h => exact retire_keeps run (List.mem_of_find?_eq_some h) _ _ .shredded
    · refine .of_running run (appendRecord_loader _ _) (appendRecord_scanner _ _) ?_
      rw [shredOrphan_ledger]
      exact (Ledger.pass_keeps _).trans (Ledger.record_keeps _)

theorem awaitingEntry_mem {t : Token} {e : Entry} (h : awaitingEntry s t = some e) : e ∈ s.custody.list :=
  List.mem_of_find?_eq_some (Option.filter_eq_some_iff.1 h).1

/-- R18: an ARRIVED. -/
theorem takeArrived_keeps (run : s.running) (t : Token) : KeepsLaws s (takeArrived t s).1 := by
  unfold takeArrived
  split
  · next e h =>
    refine .of_running run rfl rfl ?_
    rw [ledger_bump_handed, (clearOfferOf_books _ _).ledger, removeEntry_ledger]
    exact Ledger.leave_keeps (token_mem_entries (awaitingEntry_mem h))
  · exact .of_sameBooks (.of_scanner_eq rfl rfl rfl rfl)

/-- R19: a MISSING. -/
theorem takeMissing_keeps (run : s.running) (t : Token) : KeepsLaws s (takeMissing t s).1 := by
  unfold takeMissing
  split
  · next e h => exact loseEntry_keeps run (awaitingEntry_mem h)
  · exact .of_sameBooks (.of_scanner_eq rfl rfl rfl rfl)

/-- R38, R40: the expectation closes. -/
theorem closeExpectation_keeps (run : s.running) : KeepsLaws s (closeExpectation s) :=
  .of_running run rfl rfl (by rw [ledger_closeExpectation]; exact Ledger.unexpect_keeps _)

/-- R40: the transit timer expires. -/
theorem expireTransit_keeps (run : s.running) (x : Expectation) : KeepsLaws s (expireTransit x s).1 :=
  (closeExpectation_keeps run).trans (.of_frame run (queueCustody_frame _ _ _).1)

/-- R38: a WITHDRAW. -/
theorem takeWithdraw_keeps (run : s.running) (t : Token) : KeepsLaws s (takeWithdraw t s).1 := by
  unfold takeWithdraw
  split
  · split
    · exact closeExpectation_keeps run
    · exact .refl s
  · exact .refl s

/-- A chain of reasons that gives none: the first does not hold, and the rest gives none. -/
theorem rest_of_ite_none {α : Type} {c : Prop} [Decidable c] {a : α} {b : Option α}
    (h : (if c then some a else b) = none) : ¬ c ∧ b = none := by
  split at h
  · cases h
  · next no => exact ⟨no, h⟩

/-- R31: an offer that no reason refuses finds no expectation open, a place free and its token not in the list. -/
theorem refusalReason_none {p : PackRecord} (h : refusalReason s p = none) :
    s.handoff.expect = none ∧ occupancy s < 16 ∧ p.token ∉ (ledger s).entries := by
  unfold refusalReason at h
  dsimp only at h
  obtain ⟨busy, h⟩ := rest_of_ite_none h
  obtain ⟨full, h⟩ := rest_of_ite_none h
  obtain ⟨-, h⟩ := rest_of_ite_none h
  obtain ⟨duplicate, -⟩ := rest_of_ite_none h
  refine ⟨by simpa using busy, occupancy_lt_of_not_full ?_, fun hm => duplicate ?_⟩
  · simp only [Bool.or_eq_true, not_or, Bool.not_eq_true] at full
    exact full.1
  · obtain ⟨e, he, ht⟩ := List.mem_map.1 hm
    exact List.any_eq_true.2 ⟨e, he, beq_iff_eq.2 ht⟩

/-- R31, R32: the decision on an OFFER. -/
theorem decideOffer_keeps (run : s.running) (p : PackRecord) (origin : Nat) :
    KeepsLaws s (decideOffer p origin s).1 := by
  unfold decideOffer
  split
  · exact (KeepsLaws.of_frame run (queueCustody_frame s _ _).1).trans (.of_sameBooks (.of_scanner_eq rfl rfl rfl rfl))
  · next h =>
    obtain ⟨closed, room, free⟩ := refusalReason_none h
    have opened : KeepsLaws s (s.onHandoff fun h =>
        { h with expect := some ⟨{ p with hops := min 15 (p.hops + 1) }, origin⟩, transit := some s.cfg.transitMs }) :=
      .of_running run rfl rfl
        (Ledger.await_keeps (l := ledger s) (by simp [ledger, closed]) (held_length_lt room) free)
    exact opened.trans (.of_frame run (queueCustody_frame _ _ _).1)

theorem clearOffer_books (s : State) : SameBooks s (clearOffer s) := .onHandoff s _ rfl

theorem startRetry_books (s : State) : SameBooks s (startRetry s) := .onHandoff s _ rfl

theorem openExit_books (s : State) : SameBooks s (openExit s) := .onHandoff s _ rfl

theorem returnOffered_books (t : Token) (s : State) : SameBooks s (returnOffered t s) :=
  .requestState s _ _ _ id fun _ => rfl

theorem changeEntry_books (t : Token) {f : Entry → Entry} (h : ∀ e, Entry.identity (f e) = Entry.identity e)
    (s : State) : SameBooks s (changeEntry t f s) := .of_custody (changeEntry_frame s t f h) (changeEntry_only s t f)

/-- R33, R45: a matching ACCEPT. -/
theorem matchedAccept_keeps (run : s.running) (o : Offer) : KeepsLaws s (matchedAccept o s).1 := by
  unfold matchedAccept
  split
  · split
    · exact .of_frame run (withdrawOffer_frame s o).1
    · have moved := SameBooks.requestState (clearOffer s) o.token .offered .inTransit
        (fun e => { e with target := o.target, adrift := none, restart := false }) fun _ => rfl
      exact .of_sameBooks (((clearOffer_books s).trans moved).trans (openExit_books _))
  · exact .of_sameBooks ((clearOffer_books s).trans
      (changeEntry_books o.token (f := fun e => { e with restart := false, adrift := some (2 * s.cfg.transitMs) })
        (fun _ => rfl) _))

/-- R33, R37, R45: an ACCEPT. -/
theorem takeAccept_keeps (run : s.running) (t : Token) (origin : Nat) : KeepsLaws s (takeAccept t origin s).1 := by
  unfold takeAccept
  split
  · exact matchedAccept_keeps run _
  · exact .of_frame run (queueWithdraw_frame s t origin).1

/-- R35: a matching REFUSE. -/
theorem matchedRefuse_books (o : Offer) (r : Reason) : SameBooks s (matchedRefuse o r s) := by
  unfold matchedRefuse
  split
  · refine SameBooks.trans ?_ (startRetry_books _)
    refine SameBooks.trans (t := returnOffered o.token (changeEntry o.token (fun e => { e with refusal := some r })
      (clearOffer s))) ?_ (.of_scanner_eq rfl rfl rfl rfl)
    exact ((clearOffer_books s).trans (changeEntry_books o.token (f := fun e => { e with refusal := some r })
      (fun _ => rfl) _)).trans (returnOffered_books _ _)
  · exact (clearOffer_books s).trans (startRetry_books _)

theorem takeRefuse_books (t : Token) (r : Reason) (origin : Nat) : SameBooks s (takeRefuse t r origin s).1 := by
  unfold takeRefuse
  split
  · exact matchedRefuse_books _ r
  · exact .refl s

/-- R36: the reply timer expires. -/
theorem expireReply_books (o : Offer) : SameBooks s (expireReply o s).1 := by
  unfold expireReply
  split
  · exact ((clearOffer_books s).trans (returnOffered_books _ _)).trans (startRetry_books _)
  · exact (clearOffer_books s).trans (startRetry_books _)

end

end Sys2Proof.Machine
end

section
namespace Sys2Proof.Machine

/-! ## Resets and start-up -/

/-- R24, R194: power-on reset leads to the reset state, which meets the laws whatever stood before it. -/
theorem powerReset_keeps (s : State) : KeepsLaws s (powerResetState s) := fun _ =>
  ⟨.of_vacant (fun _ => rfl) rfl ⟨rfl, rfl, fun c => by cases c <;> rfl⟩,
    fun _ => ⟨⟨Nat.zero_le _, List.nodup_nil⟩, fun _ => rfl, fun _ => rfl⟩⟩

theorem keepCauses_inactive (old : Vector CauseRecord 14) (c : Cause) :
    (keepCauses old)[Cause.index c].active = false := by
  unfold keepCauses
  rw [tabulate_getElem_fin]
  cases c <;> rfl

theorem pinReset_keeps (s : State) : KeepsLaws s (pinResetState s) := fun _ =>
  ⟨.of_vacant (fun _ => rfl) rfl ⟨rfl, rfl, keepCauses_inactive _⟩,
    fun _ => ⟨⟨Nat.zero_le _, List.nodup_nil⟩, fun _ => rfl, id⟩⟩

section
variable (s : State)

/-- R186: the release of a reset, which leads to LOAD again. -/
theorem releaseReset_keeps (held : s.loader.held = true) : KeepsLaws s (releaseReset s) :=
  .of_start fun start => by
    have load := start.1 held
    exact .of_phase (by rw [load]; decide) rfl (fun _ => rfl)
      (fun start => start.no_round (by rw [load]; decide) (by rw [load]; decide)) fun _ => rfl

theorem execResetRelease_keeps (samples : ReleaseSamples) : AnswerKeeps s (execResetRelease samples s) := by
  refine .next ?_
  have sampled : SameBooks s (s.onPins fun p =>
    { p with rstn := p.rstn.run samples.rstn, straps := runGroup p.straps samples.straps }) := .onPins s _
  split
  · next h => exact (KeepsLaws.of_sameBooks sampled).trans (releaseReset_keeps _ h.1)
  · exact .of_sameBooks sampled

/-- R187, R188: a change of the start phase from LOAD. -/
theorem keeps_from_load {t : State} (held : s.loader.held = false) (load : s.loader.phase = .load)
    (books : ledger t = ledger s) (held' : t.loader.held = s.loader.held) (scanner : t.scanner = s.scanner)
    (active : ∀ c : Cause, t.hazard.causes[Cause.index c].active = s.hazard.causes[Cause.index c].active) :
    KeepsLaws s t :=
  .of_phase (by rw [load]; decide) books (fun h => absurd (held.symm.trans (held'.symm.trans h)) Bool.false_ne_true)
    (fun start => by rw [scanner]; exact start.no_round (by rw [load]; decide) (by rw [load]; decide)) active

theorem setLevels_active (cfg : Config) (c : Cause) :
    (setLevels cfg s).hazard.causes[Cause.index c].active = s.hazard.causes[Cause.index c].active := by
  unfold setLevels
  rw [State.onHazard_hazard, tabulate_getElem_fin]

/-- R189: an accepted image writes the configuration and what it configures. -/
theorem acceptImage_kept (role : Role) (img : List Byte) : ledger (acceptImage role img s) = ledger s
    ∧ (acceptImage role img s).loader.held = s.loader.held ∧ (acceptImage role img s).scanner = s.scanner
    ∧ ∀ c : Cause, (acceptImage role img s).hazard.causes[Cause.index c].active
      = s.hazard.causes[Cause.index c].active := by
  unfold acceptImage startLink enterLink
  dsimp only
  refine ⟨ledger_congr ?_ ?_ ?_, ?_, ?_, fun c => ?_⟩
  case refine_6 => exact setLevels_active _ _ c
  all_goals simp [setLevels, setZones, disablePoints]

/-- R193: FAULTED writes the start phase, the configuration and the link. -/
theorem enterFaulted_kept (f : Finding) : ledger (enterFaulted f s) = ledger s
    ∧ (enterFaulted f s).loader.held = s.loader.held ∧ (enterFaulted f s).scanner = s.scanner
    ∧ ∀ c : Cause, (enterFaulted f s).hazard.causes[Cause.index c].active
      = s.hazard.causes[Cause.index c].active := by
  unfold enterFaulted startLink enterLink
  exact ⟨ledger_congr rfl rfl rfl, rfl, rfl, fun _ => rfl⟩

/-- R188: what CHECK leaves alone, whatever it finds. -/
theorem checkPhase_kept : ledger (checkPhase s) = ledger s ∧ (checkPhase s).loader.held = s.loader.held
    ∧ (checkPhase s).scanner = s.scanner
    ∧ ∀ c : Cause, (checkPhase s).hazard.causes[Cause.index c].active = s.hazard.causes[Cause.index c].active := by
  unfold checkPhase
  split
  · exact acceptImage_kept s _ _
  · exact enterFaulted_kept s _
  · exact enterFaulted_kept s _

theorem execImageReadAttempt_keeps (bytes : List Byte) : AnswerKeeps s (execImageReadAttempt bytes s) := by
  refine .next ?_
  split
  · next h =>
    obtain ⟨held, load⟩ := h
    unfold judgeRead
    dsimp only
    split
    · obtain ⟨books, held', scanner, active⟩ := checkPhase_kept ((s.onLoader fun l =>
        { l with attempts := l.attempts + 1, spi := readSignals }).onLoader fun l =>
          { l with phase := .check, image := some bytes })
      exact keeps_from_load s held load books held' scanner active
    · split
      · exact keeps_from_load s held load rfl rfl rfl fun _ => rfl
      · obtain ⟨books, held', scanner, active⟩ := checkPhase_kept ((s.onLoader fun l =>
          { l with attempts := l.attempts + 1, spi := readSignals }).onLoader fun l => { l with phase := .check })
        exact keeps_from_load s held load books held' scanner active
  · exact .refl s

/-- R171: the status timer's expiry writes the link's slots and clears the evaluator's flags. -/
theorem statusTick_books : SameBooks s (statusTick s) := by
  have queued (f : StatusFields) : SameBooks s (queueStatus f s) := by
    unfold queueStatus
    exact .onLink s _
  unfold statusTick sendStatus
  exact (((queued _).trans (.onHazard _ _ rfl)).trans (.onLink _ _)).trans (.onLink _ _)

/-- R190: the first scan, made in TEST before the round begins. -/
theorem firstScan_books (readings : Vector Int 8) : SameBooks s (firstScan readings s) := by
  refine (Fx.Within.forEach (R := SameBooks) (C := fun _ => True) .refl .trans (fun a t => ⟨?_, fun _ _ => trivial⟩)
    (List.finRange 8) s).1
  split
  · exact .refl t
  · exact scanPoint_books t _ _

/-- R190: TEST is entered from JOIN. -/
theorem enterTest_keeps (readings : Vector Int 8) (join : s.loader.phase = .join) :
    KeepsLaws s (enterTest readings s).1 := by
  refine .of_start fun start => ?_
  have held := start.not_held (by rw [join]; decide)
  have entered : KeepsLaws s (s.onLoader fun l => { l with phase := .test }) :=
    .of_phase (by rw [join]; decide) rfl (fun h => absurd (held.symm.trans h) Bool.false_ne_true)
      (fun start => start.no_round (by rw [join]; decide) (by rw [join]; decide)) fun _ => rfl
  have scanned := (firstScan_books (s.onLoader fun l => { l with phase := .test }) readings).trans
    (.onPoints _ _ : SameBooks _ (beginWindows _))
  refine (entered.trans (.of_sameBooks scanned)).trans (beginRound_keeps _ true ?_)
  rw [scanned.loader]
  rfl

theorem execJoinCompletion_keeps (bits : List Bool) (readings : Vector Int 8) :
    AnswerKeeps s (execJoinCompletion bits readings s) := by
  unfold execJoinCompletion
  split
  · refine .done ?_
    have joined : SameBooks s (statusTick (enterLink .idle s)) := (SameBooks.onLink s _).trans (statusTick_books _)
    unfold completeJoin
    dsimp only
    split
    · next join => exact (KeepsLaws.of_sameBooks joined).trans (enterTest_keeps _ readings join)
    · exact .of_sameBooks joined
  · exact .refl s

/-! ## RUN entry -/

/-- R85: the baselines are captured in BASELINE, before RUN. -/
theorem finishBaseline_books : SameBooks s (finishBaseline s) :=
  SameBooks.trans (.onPoints s _ : SameBooks s (captureBaselines s))
    (Fx.Within.forEach (R := SameBooks) (C := fun _ => True) .refl .trans
      (fun p t => ⟨refreshPoint_books t p, fun _ _ => trivial⟩) allPoints _).1

/-- R190: BASELINE leads to RUN with no round in progress. -/
theorem beginRun_keeps (volts : Vector Nat 4) (baseline : s.loader.phase = .baseline) :
    KeepsLaws s (startGrace (startInterval (beginRun volts s))) := fun sound => by
  have held := sound.start.not_held (by rw [baseline]; decide)
  have round := sound.start.no_round (by rw [baseline]; decide) (by rw [baseline]; decide)
  exact ⟨.of_running held rfl fun r hr => absurd (round.symm.trans hr) (Option.some_ne_none r).symm, .of_eq rfl⟩

/-- R61, R64: a verdict leaves the ledger, the loader and the rounds alone, whatever the channel's state. -/
theorem setVerdict_books (c : ChannelId) (v : Verdict) : SameBooks s (setVerdict c v s).1 := by
  obtain ⟨only, frame⟩ := setVerdict_custody s c v
  have hazard : (setVerdict c v s).1.hazard = s.hazard := only .hazard (by decide)
  exact .of_scanner_eq frame.ledger_eq (only .loader (by decide)) (only .scanner (by decide)) (by rw [hazard])

theorem changeChannel_books (c : ChannelId) (f : Channel → Channel) : SameBooks s (changeChannel c f s) :=
  .onChannels s _

theorem connectCheck_books (c : ChannelId) : SameBooks s (connectCheck c s).1 := by
  unfold connectCheck
  split
  · exact setVerdict_books s c _
  · exact changeChannel_books s c _

end

/-- R14: one channel at RUN entry yields at most one orphan. -/
theorem orphanOnChannel_keeps {s : State} (run : s.running) (room : occupancy s < 16) (c : ChannelId) :
    KeepsLaws s (orphanOnChannel c s).1 ∧ (orphanOnChannel c s).1.running
      ∧ occupancy (orphanOnChannel c s).1 ≤ occupancy s + 1 := by
  unfold orphanOnChannel
  split
  · have taken : SameBooks (appendOrphan .inChannel (some c) s)
        (connectCheck c (changeChannel c (takeToken (orphanRecord s.loader.own (allocOrphan s)).token)
          (appendOrphan .inChannel (some c) s))).1 := (SameBooks.onChannels _ _).trans (connectCheck_books _ c)
    refine ⟨(appendOrphan_keeps run room _ _).trans (.of_sameBooks taken), ?_, ?_⟩
    · exact (congrArg Loader.phase taken.loader).trans run
    · rw [← heldTokens_length, ← ledger_held, taken.ledger, appendOrphan_ledger, ← heldTokens_length s,
        ← ledger_held]
      simp only [Ledger.held, Ledger.enter, List.length_append, List.length_singleton]
      omega
  · exact ⟨.refl s, run, Nat.le_succ _⟩

theorem orphans_keep : ∀ (cs : List ChannelId) {s : State}, s.running → occupancy s + cs.length ≤ 16 →
    KeepsLaws s (forEach orphanOnChannel cs s).1 ∧ (forEach orphanOnChannel cs s).1.running
  | [], s, run, _ => ⟨.refl s, run⟩
  | c :: cs, s, run, room => by
    rw [List.length_cons] at room
    obtain ⟨keeps, run', length⟩ := orphanOnChannel_keeps run (by omega) c
    obtain ⟨keeps', run''⟩ := orphans_keep cs run' (by omega)
    exact ⟨keeps.trans keeps', run''⟩

/-- R14: the orphans of RUN entry, at a station that holds no pack yet. -/
theorem orphansAtRunEntry_keeps {s : State} (run : s.running) (empty : occupancy s = 0) :
    KeepsLaws s (orphansAtRunEntry s).1 ∧ (orphansAtRunEntry s).1.running := by
  unfold orphansAtRunEntry
  split
  · exact orphans_keep allChannels run (by rw [empty]; decide)
  · exact ⟨.refl s, run⟩

theorem passAllPoints_books (s : State) : SameBooks s (passAllPoints s) := by
  unfold passAllPoints
  dsimp only
  split
  · exact (SameBooks.trans (.onPoints s _) (.onHazard _ _ rfl)).trans (.flagPointAlarm _)
  · exact SameBooks.trans (.onPoints s _) (.onHazard _ _ rfl)

/-- R191: the hand-ons that RUN entry makes at the zones, the evaluator and the chamber. -/
theorem zonesAtRunEntry_frame (s : State) : HandOnFrame s (zonesAtRunEntry s).1 :=
  (frame_onZones s _).trans (Framed.forEach (fun z t =>
    Framed.of ((workHealth_frame t z).trans (workFault_frame _ z).1)) allZones _).1

theorem alarmAtRunEntry_frame (p : PointId) (s : State) : Framed s (alarmAtRunEntry p s) := by
  unfold alarmAtRunEntry
  split
  · exact Framed.of ((workPersistence_frame s _ p _).trans (judgeAlarm_frame _ _ p).1)
  · exact Framed.of (.refl s)

theorem chamberAtRunEntry_frame (s : State) : HandOnFrame s (chamberAtRunEntry s).1 := by
  unfold chamberAtRunEntry
  split
  · exact (frame_onChamber s _).trans (reportOxygen_frame _).1
  · exact .refl s

theorem runEntry_frame (r : Fx) : Framed r.1
    ((((r.andThen zonesAtRunEntry).andThen reassess).andThen (forEach alarmAtRunEntry allPoints)).andThen
      chamberAtRunEntry) :=
  (((Framed.andThen (Framed.of (.refl r.1)) fun t => Framed.of (zonesAtRunEntry_frame t)).andThen reassess_frame).andThen
    fun t => Framed.forEach alarmAtRunEntry_frame allPoints t).andThen fun t => Framed.of (chamberAtRunEntry_frame t)

theorem testWatermark_books (s : State) : SameBooks s (testWatermark s) := .onTally s _ (by split <;> rfl)

/-- R191, Table 36: RUN entry from BASELINE. -/
theorem enterRun_keeps (s : State) (volts : Vector Nat 4) (baseline : s.loader.phase = .baseline) :
    KeepsLaws s (enterRun volts s).1 := by
  refine .of_start fun start => ?_
  have vacant := start.vacant (by rw [baseline]; decide)
  have empty : occupancy (startGrace (startInterval (beginRun volts s))) = 0 := by
    obtain ⟨list, expect, -⟩ := vacant
    show s.custody.list.length + s.handoff.expect.isSome.toNat = 0
    rw [list, expect]
    rfl
  obtain ⟨orphans, run⟩ := orphansAtRunEntry_keeps (s := startGrace (startInterval (beginRun volts s))) rfl empty
  have passed := passAllPoints_books (orphansAtRunEntry (startGrace (startInterval (beginRun volts s)))).1
  have handed := runEntry_frame ((orphansAtRunEntry (startGrace (startInterval (beginRun volts s)))).after passAllPoints)
  exact ((((beginRun_keeps s volts baseline).trans orphans).trans (.of_sameBooks passed)).trans
    (.of_frame ((congrArg Loader.phase passed.loader).trans run) handed.1)).trans (.of_sameBooks (testWatermark_books _))

theorem execBaselineEnd_keeps (s : State) (volts : Vector Nat 4) : AnswerKeeps s (execBaselineEnd volts s) := by
  unfold execBaselineEnd
  split
  · next h =>
    have finished := finishBaseline_books s
    exact .done ((KeepsLaws.of_sameBooks finished).trans
      (enterRun_keeps _ volts ((congrArg Loader.phase finished.loader).trans h.1)))
  · exact .refl s

end Sys2Proof.Machine
end

section
namespace Sys2Proof.Machine

section
variable (s : State)

/-! ## The local inputs -/

theorem execEntryRise_keeps (samples : List Bool) (cls : List (BitVec 3)) (dmg : List Bool) :
    AnswerKeeps s (execEntryRise samples cls dmg s) := by
  have sampled : SameBooks s (s.onPins fun p =>
    { p with entry := p.entry.run samples, cls := runGroup p.cls cls, dmg := p.dmg.run dmg }) := .onPins s _
  unfold execEntryRise
  dsimp only
  split
  · next h => exact .done ((KeepsLaws.of_sameBooks sampled).trans (takeEntry_keeps h.2))
  · exact .nextBooks sampled

theorem execRemoveRise_keeps (samples : List Bool) : AnswerKeeps s (execRemoveRise samples s) := by
  have sampled : SameBooks s (s.onPins fun p => { p with remove := p.remove.run samples }) := .onPins s _
  unfold execRemoveRise
  dsimp only
  split
  · next h => exact .done ((KeepsLaws.of_sameBooks sampled).trans (takeRemove_keeps h.2))
  · exact .nextBooks sampled

theorem execThroatPulse_keeps (samples : List Bool) : AnswerKeeps s (execThroatPulse samples s) := by
  have sampled : SameBooks s (s.onPins fun p => { p with throat := p.throat.run samples }) := .onPins s _
  unfold execThroatPulse
  dsimp only
  split
  · next h => exact .done ((KeepsLaws.of_sameBooks sampled).trans (takeThroat_keeps h.2.1))
  · exact .nextBooks sampled

/-- R123: the restore key clears latches of the evaluator alone. -/
theorem clearLatches_eq : clearLatches s = s.onHazard fun _ => (clearLatches s).hazard := by
  unfold clearLatches
  dsimp only
  split <;> rfl

theorem takeRestore_keeps (run : s.running) : KeepsLaws s (takeRestore s).1 := by
  unfold takeRestore
  dsimp only
  rw [clearLatches_eq]
  exact .of_running run rfl rfl (.of_eq rfl)

theorem execRestoreRise_keeps (samples : List Bool) : AnswerKeeps s (execRestoreRise samples s) := by
  have sampled : SameBooks s (s.onPins fun p => { p with restore := p.restore.run samples }) := .onPins s _
  unfold execRestoreRise
  dsimp only
  split
  · next h => exact .done ((KeepsLaws.of_sameBooks sampled).trans (takeRestore_keeps _ h.2))
  · exact .nextBooks sampled

/-! ## The discharge channels -/

theorem releaseChannel_books (c : ChannelId) : SameBooks s (releaseChannel c s).1 := by
  obtain ⟨frame, only, -⟩ := releaseChannel_custody s c
  have hazard : (releaseChannel c s).1.hazard = s.hazard := only .hazard (by decide)
  exact .of_scanner_eq frame.ledger_eq (only .loader (by decide)) (only .scanner (by decide)) (by rw [hazard])

theorem sampleConn_books (c : ChannelId) (samples : List Bool) : SameBooks s (sampleConn c samples s) := .onPins s _

theorem execConnRise_keeps (c : ChannelId) (samples : List Bool) (volts : Nat) :
    AnswerKeeps s (execConnRise c samples volts s) := by
  have sampled : SameBooks s ((sampleConn c samples s).onPins fun p => { p with vsns := p.vsns.set c (holdVolts volts) }) :=
    (sampleConn_books s c samples).trans (.onPins _ _)
  unfold execConnRise
  dsimp only
  split
  · exact .doneBooks (sampled.trans (connectCheck_books _ c))
  · exact .nextBooks sampled

theorem disconnect_books (c : ChannelId) : SameBooks s (disconnect c s).1 := by
  unfold disconnect
  split
  · exact setVerdict_books s c _
  · exact setVerdict_books s c _
  · exact setVerdict_books s c _
  · exact releaseChannel_books s c
  · exact .refl s
  · exact .refl s

theorem execConnFall_keeps (c : ChannelId) (samples : List Bool) : AnswerKeeps s (execConnFall c samples s) := by
  unfold execConnFall
  dsimp only
  split
  · exact .doneBooks ((sampleConn_books s c samples).trans (disconnect_books _ c))
  · exact .nextBooks (sampleConn_books s c samples)

theorem dischargeTests_books (c : ChannelId) : SameBooks s (dischargeTests c s).1 := by
  unfold dischargeTests
  dsimp only
  split
  · exact changeChannel_books s c _
  · split
    · exact setVerdict_books s c _
    · split
      · exact setVerdict_books s c _
      · split
        · exact changeChannel_books s c _
        · exact changeChannel_books s c _

theorem heldTests_books (c : ChannelId) : SameBooks s (heldTests c s).1 := by
  unfold heldTests
  dsimp only
  split
  · exact setVerdict_books s c _
  · exact changeChannel_books s c _

theorem restTests_books (c : ChannelId) : SameBooks s (restTests c s).1 := by
  unfold restTests
  split
  · exact setVerdict_books s c _
  · exact .refl s

theorem takeSample_books (c : ChannelId) (volts : Nat) (current temp : Int) :
    SameBooks s (takeSample c volts current temp s).1 := by
  have stored := changeChannel_books s c (storeReadings volts current temp)
  unfold takeSample
  dsimp only [Fx.tell]
  split
  · exact (stored.trans (changeChannel_books _ c _)).trans (dischargeTests_books _ c)
  · exact (stored.trans (changeChannel_books _ c _)).trans (heldTests_books _ c)
  · exact (stored.trans (changeChannel_books _ c _)).trans (restTests_books _ c)
  · exact stored
  · exact stored
  · exact stored

theorem execMeasurementSample_keeps (c : ChannelId) (volts : Nat) (current temp : Int) :
    AnswerKeeps s (execMeasurementSample c volts current temp s) := by
  unfold execMeasurementSample
  split
  · exact .doneBooks (takeSample_books s c _ _ _)
  · exact .refl s

theorem judgeRest_books (c : ChannelId) : SameBooks s (judgeRest c s).1 := by
  unfold judgeRest
  dsimp only
  split
  · exact (changeChannel_books s c _).trans (setVerdict_books _ c _)
  · split
    · exact (changeChannel_books s c _).trans (changeChannel_books _ c _)
    · exact (changeChannel_books s c _).trans (setVerdict_books _ c _)

theorem execRestTimerExpiry_keeps (c : ChannelId) : AnswerKeeps s (execRestTimerExpiry c s) := by
  unfold execRestTimerExpiry
  split
  · exact .doneBooks (judgeRest_books s c)
  · exact .refl s

theorem execDischargeTimeExpiry_keeps (c : ChannelId) : AnswerKeeps s (execDischargeTimeExpiry c s) := by
  unfold execDischargeTimeExpiry
  split
  · exact .doneBooks (setVerdict_books s c _)
  · exact .refl s

/-! ## Points and zones -/

theorem execPointScan_keeps (a : AnalogueId) (reading : Int) : AnswerKeeps s (execPointScan a reading s) := by
  unfold execPointScan
  split
  · exact .doneBooks (scanPoint_books s _ _)
  · exact .refl s

theorem execPulseEdge_keeps (q : PulseId) (samples : List Bool) : AnswerKeeps s (execPulseEdge q samples s) := by
  have sampled : SameBooks s (s.onPins fun k => { k with pulse := modifyAt k.pulse q fun f => f.run samples }) :=
    .onPins s _
  refine .nextBooks ?_
  split
  · exact sampled.trans (changePoint_books _ _ _)
  · exact sampled

theorem execPulseWindowEnd_keeps (q : PulseId) : AnswerKeeps s (execPulseWindowEnd q s) := by
  unfold execPulseWindowEnd
  split
  · exact .doneBooks (endWindow_books s q)
  · exact .refl s

theorem execTestTimerExpiry_keeps : AnswerKeeps s (execTestTimerExpiry s) := by
  unfold execTestTimerExpiry
  split
  · exact .doneBooks (failTest_books s _)
  · exact .refl s

theorem execReleaseEnd_keeps : AnswerKeeps s (execReleaseEnd s) := by
  unfold execReleaseEnd
  split
  · exact .doneBooks (endRelease_books s _ _)
  · exact .refl s

theorem execTestIntervalExpiry_keeps : AnswerKeeps s (execTestIntervalExpiry s) := by
  unfold execTestIntervalExpiry
  split
  · next h => exact .done (beginRound_keeps s false h.1)
  · exact .refl s

theorem changeZone_books (z : ZoneId) (f : Zone → Zone) : SameBooks s (changeZone z f s) := .onZones s _

theorem stopPersistence_books (z : ZoneId) : SameBooks s (stopPersistence z s) := .onZones s _

theorem confirmZone_books (z : ZoneId) (p : PointId) (b : Basis) : SameBooks s (confirmZone z p b s).1 := by
  unfold confirmZone
  exact (changeZone_books s z _).trans (stopPersistence_books _ z)

theorem execZoneWindowExpiry_keeps (z : ZoneId) : AnswerKeeps s (execZoneWindowExpiry z s) := by
  unfold execZoneWindowExpiry
  split
  · refine .doneBooks ?_
    unfold expireWindow
    dsimp only
    split
    · exact changeZone_books s z _
    · exact changeZone_books s z _
  · exact .refl s

theorem execPersistenceExpiry_keeps (p : PointId) : AnswerKeeps s (execPersistenceExpiry p s) := by
  unfold execPersistenceExpiry
  split
  · refine .doneBooks ?_
    have stopped : SameBooks s (s.onZones fun k => { k with persist := k.persist.set p none }) := .onZones s _
    unfold expirePersistence
    dsimp only
    split
    · split
      · exact stopped.trans (confirmZone_books _ _ _ _)
      · exact stopped
    · exact stopped
  · exact .refl s

/-! ## Hand-off -/

theorem execReplyTimerExpiry_keeps : AnswerKeeps s (execReplyTimerExpiry s) := by
  unfold execReplyTimerExpiry
  split
  · split
    · exact .doneBooks (expireReply_books _)
    · exact .refl s
  · exact .refl s

theorem execRetryTimerExpiry_keeps : AnswerKeeps s (execRetryTimerExpiry s) := by
  unfold execRetryTimerExpiry
  split
  · next h =>
    exact .done ((KeepsLaws.of_sameBooks (.onHandoff s _ rfl)).trans (.of_frame h.1 (candidateSearch_frame _).1))
  · exact .refl s

theorem execExitGateExpiry_keeps : AnswerKeeps s (execExitGateExpiry s) := by
  refine .nextBooks ?_
  split
  · exact .onHandoff s _ rfl
  · exact .refl s

theorem execAdriftExpiry_keeps (t : Token) : AnswerKeeps s (execAdriftExpiry t s) := by
  unfold execAdriftExpiry
  split
  · next e he =>
    split
    · next h => exact .done (loseEntry_keeps h.1 (List.mem_of_find?_eq_some he))
    · exact .refl s
  · exact .refl s

theorem execTransitTimerExpiry_keeps : AnswerKeeps s (execTransitTimerExpiry s) := by
  unfold execTransitTimerExpiry
  split
  · split
    · next run => exact .done (expireTransit_keeps run _)
    · exact .refl s
  · exact .refl s

theorem dropRx_books : SameBooks s (dropRx s) := .onLink s _

/-- R31, R168: a custody telegram taken. -/
theorem takeCustody_keeps (t : Telegram) {act : State → Fx} (h : ∀ u : State, u.running → KeepsLaws u (act u).1) :
    AnswerKeeps s (takeCustody t act s) := by
  unfold takeCustody
  split
  · next acts =>
    have run : s.running := by
      simp only [custodyTelegramActs, Bool.and_eq_true, beq_iff_eq] at acts
      exact acts.1
    exact .done ((KeepsLaws.of_sameBooks (dropRx_books s)).trans (h (dropRx s) run))
  · exact .nextBooks (dropRx_books s)

theorem execOfferReceived_keeps : AnswerKeeps s (execOfferReceived s) := by
  unfold execOfferReceived
  split
  · exact takeCustody_keeps s _ fun _ run => decideOffer_keeps run _ _
  · exact .refl s

theorem execAcceptReceived_keeps : AnswerKeeps s (execAcceptReceived s) := by
  unfold execAcceptReceived
  split
  · exact takeCustody_keeps s _ fun _ run => takeAccept_keeps run _ _
  · exact .refl s

theorem execRefuseReceived_keeps : AnswerKeeps s (execRefuseReceived s) := by
  unfold execRefuseReceived
  split
  · exact takeCustody_keeps s _ fun _ _ => .of_sameBooks (takeRefuse_books _ _ _)
  · exact .refl s

theorem execWithdrawReceived_keeps : AnswerKeeps s (execWithdrawReceived s) := by
  unfold execWithdrawReceived
  split
  · exact takeCustody_keeps s _ fun _ run => takeWithdraw_keeps run _
  · exact .refl s

theorem execArrivedReceived_keeps : AnswerKeeps s (execArrivedReceived s) := by
  unfold execArrivedReceived
  split
  · exact takeCustody_keeps s _ fun _ run => takeArrived_keeps run _
  · exact .refl s

theorem execMissingReceived_keeps : AnswerKeeps s (execMissingReceived s) := by
  unfold execMissingReceived
  split
  · exact takeCustody_keeps s _ fun _ run => takeMissing_keeps run _
  · exact .refl s

/-! ## The peer view -/

theorem reassess_keeps : KeepsLaws s (reassess s).1 := hand_keeps s .reassess

theorem workLevel_books : SameBooks s (workLevel s).1 := by
  unfold workLevel
  dsimp only
  split
  · exact .refl s
  · exact .onPeers s fun v => { v with level := peerLevel s }

theorem workSilent_books : SameBooks s (workSilent s).1 := by
  unfold workSilent
  dsimp only
  split
  · exact .refl s
  · exact .onPeers s fun v => { v with silent := peerSilentCondition s }

theorem workPeerCauses_books : SameBooks s (workPeerCauses s).1 := (workLevel_books s).trans (workSilent_books _)

theorem changePeer_books (p : PeerId) (f : PeerEntry → PeerEntry) : SameBooks s (changePeer p f s) := .onPeers s _

theorem tellHandoff_keeps {s : State} {r : Fx} (h : SameBooks s r.1) (ns : List Notice) :
    KeepsLaws s (tellHandoff r ns).1 := by
  unfold tellHandoff
  dsimp only
  split
  · exact .of_sameBooks h
  · exact (KeepsLaws.of_sameBooks h).trans (reassess_keeps _)

/-- R150, R153: a change of one peer entry, with both peer causes worked afresh. -/
theorem workPeer_keeps (p : PeerId) (f : PeerEntry → PeerEntry) (ns : List Notice) :
    KeepsLaws s (tellHandoff (workPeerCauses (changePeer p f s)) ns).1 :=
  tellHandoff_keeps ((changePeer_books s p f).trans (workPeerCauses_books _)) ns

theorem execStatusReceived_keeps : AnswerKeeps s (execStatusReceived s) := by
  unfold execStatusReceived
  split
  · split
    · exact .done ((KeepsLaws.of_sameBooks (dropRx_books s)).trans (workPeer_keeps _ _ _ _))
    · exact .nextBooks (dropRx_books s)
  · exact .refl s

theorem execAlarmReceived_keeps : AnswerKeeps s (execAlarmReceived s) := by
  unfold execAlarmReceived
  split
  · split
    · exact .done ((KeepsLaws.of_sameBooks (dropRx_books s)).trans
        (tellHandoff_keeps ((changePeer_books _ _ _).trans (workLevel_books _)) _))
    · exact .nextBooks (dropRx_books s)
  · exact .refl s

theorem execDuplicateStation_keeps : AnswerKeeps s (execDuplicateStation s) := by
  unfold execDuplicateStation
  split
  · split
    · split
      · refine .doneBooks ((dropRx_books s).trans ?_)
        unfold takeBadOrigin
        split
        · exact .onPeers (dropRx s) fun v => { v with duplicates := v.duplicates.bump }
        · exact .onPeers (dropRx s) fun v => { v with badOrigins := v.badOrigins.bump }
      · exact .nextBooks (dropRx_books s)
    · exact .refl s
  · exact .refl s

theorem execReportReceived_keeps : AnswerKeeps s (execReportReceived s) := by
  unfold execReportReceived
  split
  · exact .nextBooks (dropRx_books s)
  · exact .refl s

theorem execStaleTimerExpiry_keeps (p : PeerId) : AnswerKeeps s (execStaleTimerExpiry p s) := by
  unfold execStaleTimerExpiry
  dsimp only
  split
  · exact .done (workPeer_keeps s p _ _)
  · exact .refl s

theorem execSilentTimerExpiry_keeps (p : PeerId) : AnswerKeeps s (execSilentTimerExpiry p s) := by
  unfold execSilentTimerExpiry
  dsimp only
  split
  · exact .done (workPeer_keeps s p _ _)
  · exact .refl s

theorem execGraceTimerExpiry_keeps : AnswerKeeps s (execGraceTimerExpiry s) := by
  unfold execGraceTimerExpiry
  split
  · exact .doneBooks ((SameBooks.onPeers s fun v => { v with grace := none, gracePassed := true }).trans
      (workSilent_books _))
  · exact .refl s

/-! ## The line bus -/

theorem enterLink_books (st : LinkState) : SameBooks s (enterLink st s) := .onLink s _

theorem countLink_books (f : LinkCounts → LinkCounts) : SameBooks s (countLink f s) := .onLink s _

theorem execStopBurstEnd_keeps (bitTimes : Nat) : AnswerKeeps s (execStopBurstEnd bitTimes s) := by
  refine .nextBooks ?_
  split
  · split
    · exact (SameBooks.onLink s _).trans (enterLink_books _ _)
    · exact .onLink s _
  · exact .refl s

/-- R117: a change of the stop hold timer, taken by the evaluator. -/
theorem setStopHold_keeps (hold : Timer) :
    KeepsLaws s (reassess (s.onHazard fun h => { h with stopHold := hold })).1 :=
  (KeepsLaws.of_sameBooks (.onHazard s _ rfl)).trans (reassess_keeps _)

theorem takeStopReport_keeps : KeepsLaws s (takeStopReport s).1 := by
  unfold takeStopReport
  split
  · exact setStopHold_keeps s _
  · exact .refl s

theorem detectBurst_keeps (setBack : Bool) : KeepsLaws s (detectBurst setBack s).1 := by
  unfold detectBurst
  exact (KeepsLaws.of_sameBooks ((countLink_books s _).trans (.onLink _ _))).trans (takeStopReport_keeps _)

theorem execStopBurstDetected_keeps (bits : List Bool) : AnswerKeeps s (execStopBurstDetected bits s) := by
  unfold execStopBurstDetected
  split
  · exact .done (detectBurst_keeps s _)
  · exact .refl s

theorem execStopHoldExpiry_keeps : AnswerKeeps s (execStopHoldExpiry s) := by
  unfold execStopHoldExpiry
  split
  · exact .done (setStopHold_keeps s none)
  · exact .refl s

theorem execStationStatusTimerExpiry_keeps : AnswerKeeps s (execStationStatusTimerExpiry s) := by
  refine .nextBooks ?_
  split
  · exact statusTick_books s
  · exact .refl s

theorem execTransmitAttempt_keeps : AnswerKeeps s (execTransmitAttempt s) := by
  refine .nextBooks ?_
  split
  · split
    · exact .onLink s _
    · exact .refl s
  · exact .refl s

theorem succeed_books (c : TxClass) : SameBooks s (succeed c s) := by
  unfold succeed
  exact ((SameBooks.onLink s _).trans (enterLink_books _ _)).trans (countLink_books _ _)

theorem loseArbitration_books (k : Nat) (readBack : List Bool) : SameBooks s (loseArbitration k readBack s) := by
  unfold loseArbitration
  exact (SameBooks.onLink s _).trans (countLink_books _ _)

theorem execTelegramSent_keeps (readBack : List Bool) : AnswerKeeps s (execTelegramSent readBack s) := by
  refine .nextBooks ?_
  split
  · split
    · exact succeed_books s _
    · exact .refl s
  · exact .refl s

theorem execArbitrationLost_keeps (readBack : List Bool) : AnswerKeeps s (execArbitrationLost readBack s) := by
  refine .nextBooks ?_
  split
  · split
    · exact loseArbitration_books s _ _
    · exact .refl s
  · exact .refl s

theorem takeBitError_books (c : TxClass) (sl : Slot) : SameBooks s (takeBitError c sl s).1 := by
  have counted : SameBooks s ((flagLinkError (countLink (fun k => { k with bitErrors := k.bitErrors.bump }) s)).onLink
      fun l => changeHead countAttempt l c) :=
    ((countLink_books s _).trans (.flagLinkError _)).trans (.onLink _ _)
  unfold takeBitError
  dsimp only
  split
  · exact counted.trans ((SameBooks.onLink _ _).trans (enterLink_books _ _))
  · dsimp only
    exact counted.trans (((SameBooks.onLink _ _).trans (enterLink_books _ _)).trans (countLink_books _ _))

theorem execBitError_keeps (readBack : List Bool) : AnswerKeeps s (execBitError readBack s) := by
  unfold execBitError
  split
  · split
    · split
      · exact .doneBooks (takeBitError_books s _ _)
      · exact .done (detectBurst_keeps s false)
      · exact .refl s
      · exact .refl s
    · exact .refl s
  · exact .refl s

theorem discardFrame_books (f : LinkCounts → LinkCounts) : SameBooks s (discardFrame f s) :=
  (countLink_books s _).trans (.flagLinkError _)

theorem judgeFrame_books (bytes : List Byte) : SameBooks s (judgeFrame bytes s) := by
  unfold judgeFrame
  split
  · exact discardFrame_books s _
  · split
    · exact discardFrame_books s _
    · split
      · unfold enqueueRx
        split
        · exact (SameBooks.onLink s _).trans (countLink_books _ _)
        · exact (countLink_books s _).trans (.flagLinkError _)
      · exact .refl s

theorem execFrameReceived_keeps (chars : List (BitVec 11)) : AnswerKeeps s (execFrameReceived chars s) := by
  refine .nextBooks ?_
  split
  · split
    · exact (enterLink_books s _).trans (judgeFrame_books _ _)
    all_goals exact .refl s
  · exact .refl s

theorem execFrameError_keeps (frame : FrameBits) : AnswerKeeps s (execFrameError frame s) := by
  have discarded (f : LinkCounts → LinkCounts) : AnswerKeeps s (.next (discardFrame f (enterLink .settling s))) :=
    .nextBooks ((enterLink_books s _).trans (discardFrame_books _ _))
  unfold execFrameError
  split
  · split
    · split
      · exact discarded _
      · exact .done (detectBurst_keeps s _)
      · exact .refl s
      · exact .refl s
    · exact discarded _
    · exact discarded _
    · exact discarded _
    · exact .refl s
  · exact .refl s

theorem execLinkIdle_keeps (bits : List Bool) : AnswerKeeps s (execLinkIdle bits s) := by
  refine .nextBooks ?_
  split
  · exact enterLink_books s _
  · exact .refl s

/-! ## The chamber, the rotor and the feed -/

theorem reportOxygen_books : SameBooks s (reportOxygen s).1 := by
  unfold reportOxygen
  dsimp only
  split
  · exact .refl s
  · exact .onChamber s fun c => { c with o2High := oxygenHigh s.cfg s.chamber }

theorem execSettleTimerExpiry_keeps : AnswerKeeps s (execSettleTimerExpiry s) := by
  unfold execSettleTimerExpiry
  split
  · refine .doneBooks ?_
    unfold expireSettle
    split
    · exact (SameBooks.onChamber s _).trans (reportOxygen_books _)
    · exact .refl s
  · exact .refl s

theorem execPurgeTimerExpiry_keeps : AnswerKeeps s (execPurgeTimerExpiry s) := by
  unfold execPurgeTimerExpiry
  split
  · exact .doneBooks ((SameBooks.onChamber s fun c => { c with purge := none, overrun := true }).trans
      (reportOxygen_books _))
  · exact .refl s

theorem takeRotorPulse_books : SameBooks s (takeRotorPulse s).1 := by
  unfold takeRotorPulse
  dsimp only
  split
  · exact .onRotor s fun r => { r with last := some s.clock, stall := some s.cfg.stallMs }
  · exact (SameBooks.onRotor s _).trans (setLabour_books _ _)

theorem execRotorPulse_keeps (samples : List Bool) : AnswerKeeps s (execRotorPulse samples s) := by
  have sampled : SameBooks s (s.onPins fun p => { p with rotor := p.rotor.run samples }) := .onPins s _
  unfold execRotorPulse
  dsimp only
  split
  · exact .doneBooks (sampled.trans (takeRotorPulse_books _))
  · exact .nextBooks sampled

theorem execStallTimerExpiry_keeps : AnswerKeeps s (execStallTimerExpiry s) := by
  unfold execStallTimerExpiry
  split
  · exact .doneBooks (r := expireStall s) (.onRotor s fun r => { r with stall := none, stalls := r.stalls.bump })
  · exact .refl s

theorem expireFeed_books (e : Entry) : SameBooks s (expireFeed e s).1 :=
  ((SameBooks.onFeed s _ : SameBooks s (closeFeed s)).trans (.requestState _ _ _ _ id fun _ => rfl)).trans
    (.onFeed _ fun f => { f with timeouts := f.timeouts.bump })

theorem execFeedTimerExpiry_keeps : AnswerKeeps s (execFeedTimerExpiry s) := by
  unfold execFeedTimerExpiry
  split
  · split
    · exact .doneBooks (expireFeed_books s _)
    · exact .refl s
  · exact .refl s

/-! ## Service requests -/

theorem sendReport_books (q : Query) (ok : Bool) (part : Nat) (answer : List Byte) :
    SameBooks s (sendReport q ok part answer s) := (SameBooks.onLink s _).trans (.onResponder _ _)

theorem replyWith_books (q : Query) (part : Nat) (answer : Option (List Byte)) :
    SameBooks s (replyWith q part answer s) := by
  unfold replyWith
  split
  · exact sendReport_books s _ _ _ _
  · exact sendReport_books s _ _ _ _

theorem serve_keeps (mine : Nat → Bool) {act : Query → State → State} (h : ∀ q u, SameBooks u (act q u)) :
    AnswerKeeps s (.next (serve mine act s)) := by
  refine .nextBooks ?_
  unfold serve
  split
  · split
    · unfold takeQuery
      dsimp only
      split
      · exact dropRx_books s
      · split
        · exact (dropRx_books s).trans (.onResponder _ _)
        · split
          · exact (dropRx_books s).trans (.onResponder _ _)
          · exact (dropRx_books s).trans (h _ _)
    · exact .refl s
  · exact .refl s

theorem answerCounters_books (q : Query) : SameBooks s (answerCounters q s) := by
  unfold answerCounters
  dsimp only
  split
  · exact (SameBooks.onResponder s _ : SameBooks s (takeSnapshot s)).trans (replyWith_books _ _ _ _)
  · exact replyWith_books _ _ _ _

/-- R179: TURN appends and drops nothing. -/
theorem turnBanks_books : SameBooks s (turnBanks s) :=
  .onTally s _ (by simp only [Tally.setBank_appended, Tally.setBank_dropped])

theorem answerTurn_books (q : Query) : SameBooks s (answerTurn q s) := by
  unfold answerTurn
  split
  · exact (turnBanks_books s).trans (sendReport_books _ _ _ _ _)
  · exact sendReport_books _ _ _ _ _

theorem answerRecord_books (read : State → Nat → Option Record) (q : Query) (u : State) :
    SameBooks u (answerRecord read q u) := replyWith_books u _ _ _

end

/-! ## Every command, and the idle step -/

/-- R7, R9, R23, R177: every command keeps the laws. -/
theorem exec_keeps (i : Instr) (s : State) : AnswerKeeps s (exec i s) := by
  cases i with
  | powerOnReset => exact .next (powerReset_keeps s)
  | pinReset => exact .next ((KeepsLaws.of_sameBooks (.onPins s _)).trans (pinReset_keeps _))
  | resetRelease samples => exact execResetRelease_keeps s samples
  | imageReadAttempt bytes => exact execImageReadAttempt_keeps s bytes
  | joinCompletion bits readings => exact execJoinCompletion_keeps s bits readings
  | baselineEnd volts => exact execBaselineEnd_keeps s volts
  | entryRise samples cls dmg => exact execEntryRise_keeps s samples cls dmg
  | removeRise samples => exact execRemoveRise_keeps s samples
  | throatPulse samples => exact execThroatPulse_keeps s samples
  | restoreRise samples => exact execRestoreRise_keeps s samples
  | connRise c samples volts => exact execConnRise_keeps s c samples volts
  | connFall c samples => exact execConnFall_keeps s c samples
  | measurementSample c volts current temp => exact execMeasurementSample_keeps s c volts current temp
  | restTimerExpiry c => exact execRestTimerExpiry_keeps s c
  | dischargeTimeExpiry c => exact execDischargeTimeExpiry_keeps s c
  | pointScan a reading => exact execPointScan_keeps s a reading
  | pulseEdge q samples => exact execPulseEdge_keeps s q samples
  | pulseWindowEnd q => exact execPulseWindowEnd_keeps s q
  | testTimerExpiry => exact execTestTimerExpiry_keeps s
  | releaseEnd => exact execReleaseEnd_keeps s
  | testIntervalExpiry => exact execTestIntervalExpiry_keeps s
  | zoneWindowExpiry z => exact execZoneWindowExpiry_keeps s z
  | persistenceExpiry p => exact execPersistenceExpiry_keeps s p
  | stopBurstEnd bitTimes => exact execStopBurstEnd_keeps s bitTimes
  | stopBurstDetected bits => exact execStopBurstDetected_keeps s bits
  | stopHoldExpiry => exact execStopHoldExpiry_keeps s
  | replyTimerExpiry => exact execReplyTimerExpiry_keeps s
  | retryTimerExpiry => exact execRetryTimerExpiry_keeps s
  | exitGateExpiry => exact execExitGateExpiry_keeps s
  | adriftExpiry t => exact execAdriftExpiry_keeps s t
  | transitTimerExpiry => exact execTransitTimerExpiry_keeps s
  | offerReceived => exact execOfferReceived_keeps s
  | acceptReceived => exact execAcceptReceived_keeps s
  | refuseReceived => exact execRefuseReceived_keeps s
  | withdrawReceived => exact execWithdrawReceived_keeps s
  | arrivedReceived => exact execArrivedReceived_keeps s
  | missingReceived => exact execMissingReceived_keeps s
  | statusReceived => exact execStatusReceived_keeps s
  | alarmReceived => exact execAlarmReceived_keeps s
  | duplicateStation => exact execDuplicateStation_keeps s
  | reportReceived => exact execReportReceived_keeps s
  | staleTimerExpiry p => exact execStaleTimerExpiry_keeps s p
  | silentTimerExpiry p => exact execSilentTimerExpiry_keeps s p
  | graceTimerExpiry => exact execGraceTimerExpiry_keeps s
  | stationStatusTimerExpiry => exact execStationStatusTimerExpiry_keeps s
  | transmitAttempt => exact execTransmitAttempt_keeps s
  | telegramSent readBack => exact execTelegramSent_keeps s readBack
  | arbitrationLost readBack => exact execArbitrationLost_keeps s readBack
  | bitError readBack => exact execBitError_keeps s readBack
  | frameReceived chars => exact execFrameReceived_keeps s chars
  | frameError frame => exact execFrameError_keeps s frame
  | linkIdle bits => exact execLinkIdle_keeps s bits
  | settleTimerExpiry => exact execSettleTimerExpiry_keeps s
  | purgeTimerExpiry => exact execPurgeTimerExpiry_keeps s
  | rotorPulse samples => exact execRotorPulse_keeps s samples
  | stallTimerExpiry => exact execStallTimerExpiry_keeps s
  | feedTimerExpiry => exact execFeedTimerExpiry_keeps s
  | identify => exact serve_keeps s _ fun q u => replyWith_books u _ _ _
  | counters => exact serve_keeps s _ fun q u => answerCounters_books u q
  | custody => exact serve_keeps s _ (answerRecord_books _)
  | peer => exact serve_keeps s _ (answerRecord_books _)
  | point => exact serve_keeps s _ (answerRecord_books _)
  | zone => exact serve_keeps s _ (answerRecord_books _)
  | channel => exact serve_keeps s _ (answerRecord_books _)
  | cause => exact serve_keeps s _ (answerRecord_books _)
  | chamber => exact serve_keeps s _ (answerRecord_books _)
  | tally => exact serve_keeps s _ fun q u => replyWith_books u _ _ _
  | turn => exact serve_keeps s _ fun q u => answerTurn_books u q
  | queryUndefinedItem => exact serve_keeps s _ fun q u => sendReport_books u _ _ _ _

/-- Log 1: a millisecond of the station clock keeps the laws: it moves timers and counted times alone. -/
theorem tick_keeps (s : State) : KeepsLaws s (tick s) := by
  unfold tick
  split
  · exact .refl s
  · have books : ledger { tickState s with pending := expiries s } = ledger s := by
      simp only [ledger, tickState, State.onLink_custody, State.onLink_handoff, State.onLink_tally]
      simp
    exact fun sound => ⟨⟨sound.start.1, sound.start.2.1, fun run =>
      Vacant.of_ledger (sound.start.vacant run) books fun _ => rfl⟩, .of_eq books⟩

/-- Every step keeps the laws. -/
theorem step_keeps {s t : State} (h : step s = .next t) : KeepsLaws s t := by
  unfold step at h
  split at h
  · cases h
    exact tick_keeps s
  · next c rest _ =>
    have taken : SameBooks s { s with pending := rest } := .of_scanner_eq rfl rfl rfl rfl
    exact (KeepsLaws.of_sameBooks taken).trans (exec_keeps c _ t h)

/-- Settles O57: the ledger of every state a step leads to comes from the ledger before it by the entries of chapter 1. -/
theorem stepKeepsCustodyLaws : Obligations.StepKeepsCustodyLaws := by
  unfold Obligations.StepKeepsCustodyLaws
  intro s t start capacity tokens h
  obtain ⟨start', keeps⟩ := step_keeps h ⟨start, (ledger_lawful_iff s).2 ⟨capacity, tokens⟩⟩
  obtain ⟨lawful, balanced, tallied⟩ := keeps ((ledger_lawful_iff s).2 ⟨capacity, tokens⟩)
  obtain ⟨capacity', tokens'⟩ := (ledger_lawful_iff t).1 lawful
  rw [← ledger_balanced_iff, ← ledger_balanced_iff, ← ledger_tallied_iff, ← ledger_tallied_iff]
  exact ⟨start', capacity', tokens', balanced, tallied⟩

end Sys2Proof.Machine
end

section
namespace Sys2Proof.Machine

/-! ## Resets (R24, R186) -/

/-- Settles O4: both resets write the custody block of R24, the pin reset with the lifetime counts and the energy total
kept. -/
theorem resetsClearCustody : Obligations.ResetsClearCustody := by
  unfold Obligations.ResetsClearCustody
  exact fun s => ⟨⟨powerResetState s, rfl, rfl, rfl, rfl, rfl, rfl, rfl⟩,
    ⟨pinResetState (s.onPins fun p => { p with rstn := p.rstn.run [false, false] }),
      rfl, rfl, rfl, rfl, rfl, rfl, rfl⟩⟩

/-- R24, R186: right after power-on reset the custody laws hold. -/
theorem reset_custodyLaws : StartLaw State.reset ∧ CapacityLaw State.reset ∧ TokenLaw State.reset
    ∧ BalanceLaw State.reset ∧ TallyLaw State.reset :=
  ⟨.of_vacant (fun _ => rfl) rfl ⟨rfl, rfl, fun c => by cases c <;> rfl⟩, Nat.zero_le _, List.nodup_nil, rfl, rfl⟩

/-- Settles O60: nothing is held, queued, active or driven right after power-on reset. -/
theorem resetMeetsLaws : Obligations.ResetMeetsLaws := by
  unfold Obligations.ResetMeetsLaws
  obtain ⟨start, capacity, tokens, balance, tally⟩ := reset_custodyLaws
  have hazard : HazardLaw State.reset := by unfold HazardLaw; decide
  have outputs : OutputLaw State.reset := by unfold OutputLaw; decide
  have queues : QueueLaw State.reset := by unfold QueueLaw; decide
  have loads : LoadLaw State.reset := by unfold LoadLaw; decide
  have feed : FeedLaw State.reset := ⟨rfl, Nat.zero_le _, fun _ h => nomatch h⟩
  exact ⟨start, capacity, tokens, hazard, outputs, queues, loads, balance, tally, feed, fun h => nomatch h⟩

/-! ## What a command of the custody block leaves at its end -/

theorem HandOnFrame.tally {s t : State} (h : HandOnFrame s t) : t.tally = s.tally := h.outside .tally (by decide)

/-- The hand-ons of a command leave every custody count but the withdrawals. -/
theorem HandOnFrame.count {s t : State} (h : HandOnFrame s t) (f : CustodyCounts → Count)
    (hf : ∀ k w, f { k with withdrawals := w } = f k) : f t.custody.counts = f s.custody.counts := by
  rw [← hf t.custody.counts s.custody.counts.withdrawals, h.counts]

/-- R22: what a terminal removal leaves of the custody block and of the tally log. -/
theorem retire_custody (e : Entry) (outcome : Removal) (peak : Option Nat) (count : CustodyCounts → CustodyCounts)
    (s : State) : (retire e outcome peak count s).custody =
      { s.custody with list := s.custody.list.filter fun e' => e'.pack.token != e.pack.token,
                       counts := count s.custody.counts } := appendRecord_custody _ _

theorem retire_tally (e : Entry) (outcome : Removal) (peak : Option Nat) (count : CustodyCounts → CustodyCounts)
    (s : State) :
    (retire e outcome peak count s).tally = (appendRecord (tallyRecord e.pack e.entered outcome peak s) s).tally := by
  unfold retire
  apply appendRecord_tallyRecord <;> rfl

theorem retire_pins (e : Entry) (outcome : Removal) (peak : Option Nat) (count : CustodyCounts → CustodyCounts)
    (s : State) : (retire e outcome peak count s).pins = s.pins := appendRecord_only _ _ .pins (by decide)

/-- R19: what a loss leaves of the custody block and of the tally log. -/
theorem loseEntry_custody (e : Entry) (s : State) : (loseEntry e s).1.custody =
      { s.custody with list := s.custody.list.filter fun e' => e'.pack.token != e.pack.token,
                       counts := { s.custody.counts with lost := s.custody.counts.lost.bump } } :=
  appendRecord_custody _ _

theorem loseEntry_tally (e : Entry) (s : State) :
    (loseEntry e s).1.tally = (appendRecord (tallyRecord e.pack e.entered .lost none s) s).tally := by
  unfold loseEntry
  apply appendRecord_tallyRecord <;> rfl

theorem loseEntry_running {e : Entry} {s : State} (run : s.running) : (loseEntry e s).1.running :=
  (congrArg Loader.phase (appendRecord_loader _ _)).trans run

/-- Table 32: the record of a terminal removal, its energy read from the summary. -/
theorem tallyRecord_eq (p : PackRecord) (entered : Clock) (outcome : Removal) (peak : Option Nat) (s : State) :
    tallyRecord p entered outcome peak s =
      { token := p.token, cls := p.cls, damaged := p.damaged, outcome, verdict := p.summary.map (·.verdict),
        energy := (p.summary.map (·.energy)).getD 0, hops := p.hops, marks := p.marks.length, overflow := p.overflow,
        peak, time := s.clock, dwell := (s.clock - entered).toNat / 1000 } := by
  unfold tallyRecord
  cases p.summary <;> rfl

/-- A change that tells nobody and loses no feed condition stands at the command's end. -/
theorem done_quiet {s t : State} (h : mayFeed s → mayFeed t) : done s (quiet t) = .next t := by
  rcases Fx.closing_cases s (quiet t) with e | ⟨_, -, may, lost, -⟩
  · unfold done
    rw [e]
    rfl
  · exact absurd (h may) lost

/-! ## ENTRY (R10 to R13) -/

/-- An ENTRY command in RUN whose samples bring a rise. -/
theorem execEntryRise_eq {samples : List Bool} {s : State} (cls : List (BitVec 3)) (dmg : List Bool) (run : s.running)
    (rises : s.pins.entry.rises samples = true) :
    let u := s.onPins fun p => { p with entry := p.entry.run samples, cls := runGroup p.cls cls, dmg := p.dmg.run dmg }
    exec (.entryRise samples cls dmg) s = done u (takeEntry u) := if_pos ⟨rises, run⟩

/-- R169: queueing a custody telegram touches no custody block, and the telegram is at the tail where a slot is free. -/
theorem queueCustody_custody (dest : Nat) (p : Payload) (s : State) : (queueCustody dest p s).1.custody = s.custody := by
  unfold queueCustody flagLinkError
  split
  · rfl
  · dsimp only
    split <;> rfl

theorem queueCustody_room {dest : Nat} {p : Payload} {s : State} (h : s.link.custody.length < 4) :
    (queueCustody dest p s).1.link.custody = s.link.custody ++ [⟨⟨s.loader.own, dest, p⟩, 0⟩] := by
  unfold queueCustody
  rw [if_pos h]
  rfl

theorem arrive_custody (x : Expectation) (s : State) : (arrive x s).1.custody =
    { s.custody with list := s.custody.list ++ [newEntry x.pack (entryStateOf s.cfg.role) s.clock],
                     counts := { s.custody.counts with arrived := s.custody.counts.arrived.bump } } :=
  queueCustody_custody _ _ _

theorem arrive_queue {x : Expectation} {s : State} (room : s.link.custody.length < 4) : (arrive x s).1.link.custody =
    s.link.custody ++ [⟨⟨s.loader.own, x.offering, .arrived x.pack.token⟩, 0⟩] := queueCustody_room room

/-- R12, R39: what an arrival leaves at the command's end. -/
theorem done_arrive (x : Expectation) (s : State) : ∃ t, done s (arrive x s) = .next t ∧ t.pins = s.pins
    ∧ t.handoff.expect = none ∧ t.handoff.transit = none
    ∧ t.custody.list.map Entry.identity = s.custody.list.map Entry.identity
        ++ [(x.pack.token, x.pack.cls, x.pack.damaged, x.pack.hops, x.pack.orphan, s.clock)]
    ∧ t.custody.counts.arrived = s.custody.counts.arrived.bump
    ∧ t.custody.counts.intake = s.custody.counts.intake ∧ t.custody.counts.orphan = s.custody.counts.orphan
    ∧ (s.link.custody.length < 4 →
        s.link.custody ++ [⟨⟨s.loader.own, x.offering, .arrived x.pack.token⟩, 0⟩] <+: t.link.custody) := by
  obtain ⟨t, ht, frame⟩ := done_frame s (arrive x s)
  have custody := arrive_custody x s
  have queued : HandOnFrame (countCustody (fun c => { c with arrived := c.arrived.bump })
      (appendEntry (newEntry x.pack (entryStateOf s.cfg.role) s.clock) (closeExpectation s))) (arrive x s).1 :=
    (queueCustody_frame _ _ _).1
  have packs := frame.packs
  rw [custody, List.map_append] at packs
  refine ⟨t, ht, frame.pins.trans queued.pins, frame.expect.trans queued.expect, frame.transit.trans queued.transit,
    packs, (frame.count (·.arrived) fun _ _ => rfl).trans (congrArg (·.counts.arrived) custody),
    (frame.count (·.intake) fun _ _ => rfl).trans (congrArg (·.counts.intake) custody),
    (frame.count (·.orphan) fun _ _ => rfl).trans (congrArg (·.counts.orphan) custody), fun room => ?_⟩
  rw [← arrive_queue room]
  exact frame.custodyQueue

theorem takeEntry_arrive {x : Expectation} {s : State} (expect : s.handoff.expect = some x) :
    takeEntry s = arrive x s := by
  unfold takeEntry
  rw [expect]

/-- Settles O12: the open expectation takes the ENTRY rise, and the pins alone are sampled before it. -/
theorem entryRiseTakesArrival : Obligations.EntryRiseTakesArrival := by
  unfold Obligations.EntryRiseTakesArrival
  intro samples cls dmg s x run rises expect
  rw [execEntryRise_eq cls dmg run rises, takeEntry_arrive (s := State.onPins s _) expect]
  obtain ⟨t, ht, pins, closed, transit, packs, arrived, intake, orphan, queue⟩ := done_arrive x (s.onPins fun p =>
    { p with entry := p.entry.run samples, cls := runGroup p.cls cls, dmg := p.dmg.run dmg })
  refine ⟨t, ht, pins, closed, transit, packs, arrived, intake, orphan, queue, ?_⟩
  rw [takeEntry_arrive expect, arrive_custody]
  rfl

/-- R5, R11: what an intake leaves of the custody block. -/
theorem takeIn_custody (s : State) : (takeIn s).1.custody =
    { s.custody with
      list := s.custody.list ++ [newEntry (intakeRecord s.loader.own (allocIntake s) (levelsOf s.pins.cls)
        s.pins.dmg.level) .ready s.clock]
      nextSerial := nextIntake (allocIntake s)
      counts := { s.custody.counts with intake := s.custody.counts.intake.bump } } := rfl

/-- R6, R13: what an orphan at the ENTRY rise leaves of the custody block. -/
theorem takeOrphan_custody (s : State) : (takeOrphan s).1.custody =
    { s.custody with
      list := s.custody.list ++ [newEntry (orphanRecord s.loader.own (allocOrphan s)) (entryStateOf s.cfg.role) s.clock]
      orphanSeq := nextOrphan (allocOrphan s)
      counts := { s.custody.counts with orphan := s.custody.counts.orphan.bump } } := rfl

/-- With no expectation open the station is full at 16 entries (R9). -/
theorem stationFull_of_no_expectation {s : State} (h : s.handoff.expect = none) :
    stationFull s = decide (16 ≤ s.custody.list.length) := by
  unfold stationFull occupancy
  rw [h]
  rfl

theorem takeEntry_full {s : State} (expect : s.handoff.expect = none) (full : 16 ≤ s.custody.list.length) :
    takeEntry s = overflowEntry s := by
  unfold takeEntry
  rw [expect]
  exact if_pos (by rw [stationFull_of_no_expectation expect]; exact decide_eq_true full)

theorem takeEntry_intake {s : State} (expect : s.handoff.expect = none) (room : s.custody.list.length < 16)
    (role : s.cfg.role = .intake) : takeEntry s = takeIn s := by
  unfold takeEntry
  rw [expect]
  refine (if_neg ?_).trans (if_pos role)
  rw [stationFull_of_no_expectation expect, decide_eq_true_eq]
  exact Nat.not_le.2 room

theorem takeEntry_orphan {s : State} (expect : s.handoff.expect = none) (room : s.custody.list.length < 16)
    (role : s.cfg.role ≠ .intake) : takeEntry s = takeOrphan s := by
  unfold takeEntry
  rw [expect]
  refine (if_neg ?_).trans (if_neg role)
  rw [stationFull_of_no_expectation expect, decide_eq_true_eq]
  exact Nat.not_le.2 room

/-- Settles O13: Table 10 without an expectation, case by case: a full station, an intake, an orphan. -/
theorem entryRiseMakesEntry : Obligations.EntryRiseMakesEntry := by
  unfold Obligations.EntryRiseMakesEntry
  intro samples cls dmg s run rises expect
  rw [execEntryRise_eq cls dmg run rises]
  generalize hu : (s.onPins fun p =>
    { p with entry := p.entry.run samples, cls := runGroup p.cls cls, dmg := p.dmg.run dmg }) = u
  have expectU : u.handoff.expect = none := by subst hu; exact expect
  have runU : u.running := by subst hu; exact run
  have custodyU : u.custody = s.custody := by subst hu; rfl
  rcases Nat.lt_or_ge s.custody.list.length 16 with room | full
  · by_cases role : s.cfg.role = .intake
    · obtain ⟨t, ht, frame⟩ := done_frame u (takeEntry u)
      rw [takeEntry_intake expectU (by rw [custodyU]; exact room) (by subst hu; exact role)] at frame
      have packs := frame.packs
      rw [takeIn_custody, List.map_append] at packs
      have intake := (frame.count (·.intake) fun _ _ => rfl).trans (congrArg (·.counts.intake) (takeIn_custody u))
      subst hu
      refine ⟨t, ht, frame.pins, frame.expect.trans expect, frame.tally, fun full => absurd full (Nat.not_le.2 room),
        fun _ _ => ⟨packs, frame.nextSerial, intake⟩, fun _ other => absurd role other, fun _ => ?_⟩
      rw [takeEntry_intake expect room role, takeIn_custody]
      simp [role, newEntry, intakeRecord]
    · rw [takeEntry_orphan expectU (by rw [custodyU]; exact room) (by subst hu; exact role)]
      obtain ⟨t, ht, frame, latched⟩ : ∃ t, done u (takeOrphan u) = .next t ∧ HandOnFrame (takeOrphan u).1 t
          ∧ Latched t .custody := done_latched (show (takeOrphan u).1.running from runU)
      have packs := frame.packs
      rw [takeOrphan_custody, List.map_append] at packs
      have orphan := (frame.count (·.orphan) fun _ _ => rfl).trans (congrArg (·.counts.orphan) (takeOrphan_custody u))
      subst hu
      refine ⟨t, ht, frame.pins, frame.expect.trans expect, frame.tally, fun full => absurd full (Nat.not_le.2 room),
        fun _ intake => absurd intake role, fun _ _ => ⟨packs, frame.orphanSeq, orphan, latched⟩, fun _ => ?_⟩
      rw [takeEntry_orphan expect room role, takeOrphan_custody]
      simp [role, newEntry, orphanRecord, entryStateOf]
  · rw [takeEntry_full expectU (by rw [custodyU]; exact full)]
    obtain ⟨t, ht, frame, latched⟩ : ∃ t, done u (overflowEntry u) = .next t ∧ HandOnFrame (overflowEntry u).1 t
        ∧ Latched t .custody := done_latched (show (overflowEntry u).1.running from runU)
    have overflows := frame.count (·.overflows) fun _ _ => rfl
    subst hu
    exact ⟨t, ht, frame.pins, frame.expect.trans expect, frame.tally, fun _ => ⟨frame.packs, overflows, latched⟩,
      fun room => absurd full (Nat.not_le.2 room), fun room => absurd full (Nat.not_le.2 room),
      fun room => absurd full (Nat.not_le.2 room)⟩

/-! ## REMOVE and THROAT (R20, R21) -/

/-- A REMOVE command in RUN whose samples bring a rise. -/
theorem execRemoveRise_eq {samples : List Bool} {s : State} (run : s.running)
    (rises : s.pins.remove.rises samples = true) :
    let u := s.onPins fun p => { p with remove := p.remove.run samples }
    exec (.removeRise samples) s = done u (takeRemove u) := if_pos ⟨rises, run⟩

/-- Settles O15: the oldest candidate is retired as REMOVED, or the removal is stray. -/
theorem removeRiseTakesOldest : Obligations.RemoveRiseTakesOldest := by
  unfold Obligations.RemoveRiseTakesOldest
  intro samples s run rises
  rw [execRemoveRise_eq run rises]
  obtain ⟨t, ht, frame⟩ := done_frame (s.onPins fun p => { p with remove := p.remove.run samples })
    (takeRemove (s.onPins fun p => { p with remove := p.remove.run samples }))
  generalize hu : (s.onPins fun p => { p with remove := p.remove.run samples }) = u at ht frame ⊢
  refine ⟨fun e he => ?_, fun none => ?_⟩
  · have candidate : removalCandidate u = some e := by subst hu; exact he
    have retired : takeRemove u =
        (retire e .removed Option.none (fun c => { c with removed := c.removed.bump }) u, entryLeft) := by
      unfold takeRemove
      rw [candidate]
    rw [retired] at frame
    have custody := retire_custody e .removed Option.none (fun c => { c with removed := c.removed.bump }) u
    have packs := frame.packs
    rw [custody] at packs
    have removed := (frame.count (·.removed) fun _ _ => rfl).trans (congrArg (·.counts.removed) custody)
    have tally := frame.tally.trans (retire_tally e .removed Option.none _ u)
    have pins := frame.pins.trans (retire_pins e .removed Option.none _ u)
    rw [tallyRecord_eq] at tally
    subst hu
    refine ⟨t, ht, pins, packs, removed, fun room => ?_, fun full => ?_⟩
    · rw [tally]
      exact (appendRecord_room (s := State.onPins s _) _ room).1
    · rw [tally]
      exact appendRecord_full (s := State.onPins s _) _ full
  · have candidate : removalCandidate u = Option.none := by subst hu; exact none
    have stray : takeRemove u = quiet (countCustody (fun c => { c with strayRemovals := c.strayRemovals.bump }) u) := by
      unfold takeRemove
      rw [candidate]
    rw [stray] at frame
    have strays := frame.count (·.strayRemovals) fun _ _ => rfl
    subst hu
    exact ⟨t, ht, frame.tally, frame.packs, strays⟩

/-- A THROAT command at a SHREDDER in RUN whose samples bring a pulse. -/
theorem execThroatPulse_eq {samples : List Bool} {s : State} (run : s.running) (role : s.cfg.role = .shredder)
    (rises : s.pins.throat.rises samples = true) :
    let u := s.onPins fun p => { p with throat := p.throat.run samples }
    exec (.throatPulse samples) s = done u (takeThroat u) := if_pos ⟨rises, run, role⟩

/-- R21, cases 1 and 2: what the shredding of an entry leaves at the command's end. -/
theorem done_shred (u v : State) (e : Entry) (peak : Option Nat) : ∃ t, done u (shred e peak v) = .next t
    ∧ t.pins = v.pins ∧ t.custody.counts.shredded = v.custody.counts.shredded.bump
    ∧ t.custody.list.map Entry.identity
        = (v.custody.list.filter fun e' => e'.pack.token != e.pack.token).map Entry.identity
    ∧ t.tally = (appendRecord (tallyRecord e.pack e.entered .shredded peak v) v).tally := by
  obtain ⟨t, ht, frame⟩ := done_frame u (shred e peak v)
  have custody := retire_custody e .shredded peak (fun c => { c with shredded := c.shredded.bump }) v
  exact ⟨t, ht, frame.pins.trans (retire_pins _ _ _ _ v),
    (frame.count (·.shredded) fun _ _ => rfl).trans (congrArg (·.counts.shredded) custody),
    frame.packs.trans (congrArg (fun k => k.list.map Entry.identity) custody),
    frame.tally.trans (retire_tally _ _ _ _ v)⟩

/-- R21, case 3: what an orphan created and consumed leaves of the custody block and of the tally log. -/
theorem shredOrphan_custody (s : State) : (shredOrphan s).1.custody =
    { s.custody with
      orphanSeq := nextOrphan (allocOrphan s)
      counts := { s.custody.counts with
        orphan := s.custody.counts.orphan.bump, shredded := s.custody.counts.shredded.bump } } :=
  appendRecord_custody _ _

theorem shredOrphan_tally (s : State) : (shredOrphan s).1.tally =
    (appendRecord (tallyRecord (orphanRecord s.loader.own (allocOrphan s)) s.clock .orphanShredded none s) s).tally := by
  unfold shredOrphan
  apply appendRecord_tallyRecord <;> rfl

/-- Settles O16: the FEEDING entry, else the eligible READY entry, else an orphan is consumed. -/
theorem throatPulseConsumesPack : Obligations.ThroatPulseConsumesPack := by
  unfold Obligations.ThroatPulseConsumesPack
  intro samples s run role rises
  rw [execThroatPulse_eq run role rises]
  generalize hu : (s.onPins fun p => { p with throat := p.throat.run samples }) = u
  have feedingU : feedingEntry u = feedingEntry s := by subst hu; rfl
  have candidateU : feedCandidate u = feedCandidate s := by subst hu; rfl
  unfold takeThroat
  rw [feedingU, candidateU]
  cases feeding : feedingEntry s with
  | some e =>
    obtain ⟨t, ht, pins, shredded, packs, tally⟩ := done_shred u (closeFeed u) e u.feed.peak
    subst hu
    refine ⟨t, ht, pins, shredded, ?_, fun _ no => (nomatch no), fun no => (nomatch no)⟩
    rintro e' ⟨⟩
    exact ⟨packs, tally.trans (by apply appendRecord_tallyRecord <;> rfl)⟩
  | none =>
    cases candidate : feedCandidate s with
    | some e =>
      obtain ⟨t, ht, pins, shredded, packs, tally⟩ := done_shred u u e (some (oxygenValue u.chamber.oxygen))
      subst hu
      refine ⟨t, ht, pins, shredded, fun _ no => (nomatch no), ?_, fun _ no => (nomatch no)⟩
      rintro e' - ⟨⟩
      exact ⟨packs, tally.trans (by apply appendRecord_tallyRecord <;> rfl)⟩
    | none =>
      have runU : (shredOrphan u).1.running := by
        subst hu
        exact (congrArg Loader.phase (appendRecord_loader _ _)).trans run
      obtain ⟨t, ht, frame, latched⟩ : ∃ t, done u (shredOrphan u) = .next t ∧ HandOnFrame (shredOrphan u).1 t
          ∧ Latched t .custody := done_latched runU
      have custody := shredOrphan_custody u
      have shredded := (frame.count (·.shredded) fun _ _ => rfl).trans (congrArg (·.counts.shredded) custody)
      have orphan := (frame.count (·.orphan) fun _ _ => rfl).trans (congrArg (·.counts.orphan) custody)
      have packs := frame.packs.trans (congrArg (fun k => k.list.map Entry.identity) custody)
      have pins : t.pins = u.pins := frame.pins.trans (appendRecord_only _ _ .pins (by decide))
      have tally := frame.tally.trans (shredOrphan_tally u)
      subst hu
      exact ⟨t, ht, pins, shredded, fun _ no => (nomatch no), fun _ _ no => (nomatch no),
        fun _ _ => ⟨packs, tally.trans (by apply appendRecord_tallyRecord <;> rfl), orphan, latched⟩⟩

/-! ## ARRIVED and MISSING (R18, R19, R41, R46) -/

/-- R149, R168: the head of the receive queue, from another station than this one and than station 0. -/
theorem oldestTelegram_of_head {s : State} {tg : Telegram} {rest : List Telegram} (rx : s.link.rx = tg :: rest)
    (own : tg.origin ≠ s.loader.own) (zero : tg.origin ≠ 0) : oldestTelegram s = some tg := by
  unfold oldestTelegram
  rw [rx]
  simp [badOrigin, own, zero]

/-- R31: a custody telegram in RUN that is not addressed to station 0 is acted on. -/
theorem takeCustody_acts {s : State} {tg : Telegram} (act : State → Fx) (run : s.running) (dest : tg.dest ≠ 0) :
    takeCustody tg act s = done s (act (dropRx s)) := by
  unfold takeCustody
  exact if_pos (by simp [custodyTelegramActs, dest, show s.loader.phase = .run from run])

/-- R168: taking the head of the receive queue. -/
theorem dropRx_eq {s : State} {tg : Telegram} {rest : List Telegram} (rx : s.link.rx = tg :: rest) :
    dropRx s = { s with link := { s.link with rx := rest } } := by
  show ({ s with link := { s.link with rx := s.link.rx.tail } } : State) = _
  rw [rx]
  rfl

/-- R18, R19: the entry that an ARRIVED or a MISSING names, where it is IN_TRANSIT or ADRIFT. -/
theorem awaitingEntry_some {s : State} {tok : Token} {e : Entry} (found : findEntry s tok = some e)
    (state : e.state = .inTransit ∨ e.state = .adrift) : awaitingEntry s tok = some e := by
  unfold awaitingEntry
  rw [found]
  rcases state with h | h <;> simp [Option.filter, h]

theorem awaitingEntry_none {s : State} {tok : Token}
    (h : ∀ e, findEntry s tok = some e → e.state ≠ .inTransit ∧ e.state ≠ .adrift) :
    awaitingEntry s tok = none := by
  unfold awaitingEntry
  cases found : findEntry s tok with
  | none => rfl
  | some e =>
    obtain ⟨transit, adrift⟩ := h e found
    simp [Option.filter, transit, adrift]

theorem findEntry_token {s : State} {tok : Token} {e : Entry} (h : findEntry s tok = some e) : e.pack.token = tok :=
  beq_iff_eq.1 (List.find?_some (p := fun e : Entry => e.pack.token == tok) h)

/-- Settles O42: the entry the ARRIVED names leaves and is counted, or the stray is counted. -/
theorem arrivedHandsEntryOver : Obligations.ArrivedHandsEntryOver := by
  unfold Obligations.ArrivedHandsEntryOver
  intro origin dest tok rest s rx own zero run addressed
  have taken : exec .arrivedReceived s = done s (takeArrived tok (dropRx s)) := by
    show execArrivedReceived s = _
    unfold execArrivedReceived
    rw [oldestTelegram_of_head rx own zero]
    exact takeCustody_acts _ run addressed
  rw [taken]
  refine ⟨fun e found state => ?_, fun h => ?_⟩
  · have token := findEntry_token found
    have handed : takeArrived tok (dropRx s) = (countCustody (fun c => { c with handed := c.handed.bump })
        (clearOfferOf e.pack.token (removeEntry e.pack.token (dropRx s))), entryLeft) := by
      unfold takeArrived
      rw [show awaitingEntry (dropRx s) tok = some e from awaitingEntry_some (s := s) found state]
    rw [handed, token]
    obtain ⟨t, ht, frame⟩ := done_frame s (countCustody (fun c => { c with handed := c.handed.bump })
      (clearOfferOf tok (removeEntry tok (dropRx s))), entryLeft)
    have count := frame.count (·.handed) fun _ _ => rfl
    exact ⟨t, ht, frame.packs, count, frame.tally, frame.rx.trans (congrArg (·.link.rx) (dropRx_eq rx))⟩
  · have stray : takeArrived tok (dropRx s)
        = quiet (countCustody (fun c => { c with strayArrived := c.strayArrived.bump }) (dropRx s)) := by
      unfold takeArrived
      rw [show awaitingEntry (dropRx s) tok = none from awaitingEntry_none (s := s) h]
    rw [stray]
    refine (done_quiet fun may => may).trans ?_
    rw [dropRx_eq rx]
    rfl

/-- R19: what a loss leaves at the end of its command. -/
theorem done_loseEntry {u s : State} (run : s.running) (e : Entry) : ∃ t, done u (loseEntry e s) = .next t
    ∧ t.custody.list.map Entry.identity
        = (s.custody.list.filter fun e' => e'.pack.token != e.pack.token).map Entry.identity
    ∧ t.custody.counts.lost = s.custody.counts.lost.bump
    ∧ t.tally = (appendRecord (tallyRecord e.pack e.entered .lost none s) s).tally ∧ Latched t .custody := by
  obtain ⟨t, ht, frame, latched⟩ : ∃ t, done u (loseEntry e s) = .next t ∧ HandOnFrame (loseEntry e s).1 t
      ∧ Latched t .custody := done_latched (loseEntry_running run)
  have custody := loseEntry_custody e s
  exact ⟨t, ht, frame.packs.trans (congrArg (fun k => k.list.map Entry.identity) custody),
    (frame.count (·.lost) fun _ _ => rfl).trans (congrArg (·.counts.lost) custody),
    frame.tally.trans (loseEntry_tally e s), latched⟩

/-- Settles O43: both ways of loss lead to the same loss of the entry, or the MISSING is stray. -/
theorem lostEntriesAreRecorded : Obligations.LostEntriesAreRecorded := by
  unfold Obligations.LostEntriesAreRecorded
  refine ⟨fun e s run found state timer => ?_, fun origin dest tok rest s rx own zero run addressed => ?_⟩
  · have expires : exec (.adriftExpiry e.pack.token) s = done s (loseEntry e s) := by
      show execAdriftExpiry _ s = _
      unfold execAdriftExpiry
      rw [found]
      exact if_pos ⟨run, state, timer⟩
    rw [expires]
    obtain ⟨t, ht, packs, lost, tally, latched⟩ := done_loseEntry (u := s) run e
    rw [tallyRecord_eq] at tally
    refine ⟨t, ht, packs, lost, fun room => ?_, latched⟩
    rw [tally]
    exact (appendRecord_room _ room).1
  · have taken : exec .missingReceived s = done s (takeMissing tok (dropRx s)) := by
      show execMissingReceived s = _
      unfold execMissingReceived
      rw [oldestTelegram_of_head rx own zero]
      exact takeCustody_acts _ run addressed
    rw [taken]
    refine ⟨fun e found state => ?_, fun h => ?_⟩
    · have loses : takeMissing tok (dropRx s) = loseEntry e (dropRx s) := by
        unfold takeMissing
        rw [show awaitingEntry (dropRx s) tok = some e from awaitingEntry_some (s := s) found state]
      rw [loses]
      obtain ⟨t, ht, packs, lost, tally, latched⟩ := done_loseEntry (u := s) (s := dropRx s) run e
      rw [findEntry_token found] at packs
      exact ⟨t, ht, packs, lost, tally.trans (by apply appendRecord_tallyRecord <;> rfl), latched⟩
    · have stray : takeMissing tok (dropRx s)
          = quiet (countCustody (fun c => { c with strayMissing := c.strayMissing.bump }) (dropRx s)) := by
        unfold takeMissing
        rw [show awaitingEntry (dropRx s) tok = none from awaitingEntry_none (s := s) h]
      rw [stray]
      refine (done_quiet fun may => may).trans ?_
      rw [dropRx_eq rx]
      rfl

end Sys2Proof.Machine
end

/-! The hand-off between stations: the proofs of R25 to R42 and R45. First what the parts of the hand-off controller do,
each said once: requests at the custody list, the transmit queue with a slot free, what a reply matches. -/
section
namespace Sys2Proof.Machine

section
variable {s : State}

/-! ## Requests and entries (R15) -/

/-- R15: whether a request applies is read from the state of the entry found. -/
theorem requestApplies_of_found {tok : Token} {e : Entry} (found : findEntry s tok = some e) (st : EntryState) :
    requestApplies s tok st = (e.state == st) := by
  unfold requestApplies
  rw [found]

/-- R15: an applied request moves the entry; the one-at-a-time states OFFERED and FEEDING have to be free. -/
theorem requestState_applied {tok : Token} {presumed new : EntryState} (f : Entry → Entry)
    (applies : requestApplies s tok presumed = true)
    (free : new = .offered ∨ new = .feeding → ∀ e ∈ s.custody.list, e.state ≠ new) :
    requestState tok presumed new f s = changeEntry tok (fun e => { f e with state := new }) s := by
  refine if_pos ⟨applies, fun ⟨single, held⟩ => ?_⟩
  obtain ⟨e, he, is⟩ := List.find?_isSome.1 held
  exact free single e he (beq_iff_eq.1 is)

/-- R15: "offer returned" makes the OFFERED entry READY. -/
theorem returnOffered_applied {tok : Token} (applies : requestApplies s tok .offered = true) :
    returnOffered tok s = changeEntry tok (fun e => { e with state := .ready }) s :=
  requestState_applied id applies (by rintro (h | h) <;> cases h)

/-- A change of an entry that leaves its token and its state leaves what requests apply. -/
theorem requestApplies_changeEntry (tok tok' : Token) (st : EntryState) {f : Entry → Entry}
    (token : ∀ e, (f e).pack.token = e.pack.token) (state : ∀ e, (f e).state = e.state) :
    requestApplies (changeEntry tok' f s) tok st = requestApplies s tok st := by
  have token' : ((fun e : Entry => e.pack.token == tok) ∘ fun e => if e.pack.token = tok' then f e else e)
      = fun e => e.pack.token == tok := by
    funext e
    simp only [Function.comp]
    split
    · rw [token]
    · rfl
  have found : findEntry (changeEntry tok' f s) tok
      = (findEntry s tok).map fun e => if e.pack.token = tok' then f e else e := by
    unfold findEntry changeEntry
    rw [State.onCustody_custody, List.find?_map, token']
  unfold requestApplies
  rw [found]
  cases findEntry s tok with
  | none => rfl
  | some e =>
    dsimp only [Option.map]
    split
    · rw [state]
    · rfl

/-- Two changes of the entries with a token are one, where the first keeps the token. -/
theorem changeEntry_changeEntry (tok : Token) (g : Entry → Entry) {f : Entry → Entry}
    (token : ∀ e, (f e).pack.token = e.pack.token) :
    changeEntry tok g (changeEntry tok f s) = changeEntry tok (fun e => g (f e)) s := by
  have twice : (fun e : Entry => if e.pack.token = tok then g e else e) ∘ (fun e => if e.pack.token = tok then f e else e)
      = fun e => if e.pack.token = tok then g (f e) else e := by
    funext e
    by_cases named : e.pack.token = tok <;> simp [named, token]
  simp only [changeEntry, State.onCustody, List.map_map, twice]

/-- A request reads and writes the custody block alone. -/
theorem requestState_of_custody_eq {t : State} (tok : Token) (presumed new : EntryState) (f : Entry → Entry)
    (same : t.custody = s.custody) :
    requestState tok presumed new f t = t.onCustody fun _ => (requestState tok presumed new f s).custody := by
  have applies : requestApplies t tok presumed = requestApplies s tok presumed := by
    simp only [requestApplies, findEntry, same]
  have holder : (oldest t fun e => e.state == new) = oldest s fun e => e.state == new := by
    simp only [oldest, same]
  unfold requestState
  rw [applies, holder]
  split
  · simp only [changeEntry, State.onCustody, same]
  · simp only [State.onCustody, ← same]

/-- A request changes no pack record. -/
theorem requestState_packs (tok : Token) (presumed new : EntryState) :
    (requestState tok presumed new id s).custody.list.map (·.pack) = s.custody.list.map (·.pack) := by
  unfold requestState
  split
  · simp only [changeEntry, State.onCustody_custody, List.map_map]
    exact List.map_congr_left fun e _ => by
      simp only [Function.comp]
      split <;> rfl
  · rfl

/-! ## The transmit queue and the receive queue (R168, R169) -/

/-- R169: a custody telegram that finds a slot free goes to the tail, and nobody is told. -/
theorem queueCustody_free (dest : Nat) (p : Payload) (room : s.link.custody.length < 4) :
    queueCustody dest p s
      = quiet (s.onLink fun l => { l with custody := l.custody ++ [⟨⟨s.loader.own, dest, p⟩, 0⟩] }) := if_pos room

/-- R33, R37, R42: a WITHDRAW that finds a slot free. -/
theorem queueWithdraw_free (tok : Token) (dest : Nat) (room : s.link.custody.length < 4) :
    queueWithdraw tok dest s = quiet (countCustody (fun c => { c with withdrawals := c.withdrawals.bump })
      (s.onLink fun l => { l with custody := l.custody ++ [⟨⟨s.loader.own, dest, .withdraw tok⟩, 0⟩] })) := by
  unfold queueWithdraw
  rw [queueCustody_free dest _ room]
  rfl

/-- R31: a custody telegram outside RUN, or addressed to station 0, is discarded. -/
theorem takeCustody_discards {tg : Telegram} (act : State → Fx) (h : ¬ s.running ∨ tg.dest = 0) :
    takeCustody tg act s = .next (dropRx s) := by
  refine if_neg fun acts => ?_
  simp only [custodyTelegramActs, Bool.and_eq_true, beq_iff_eq, bne_iff_ne] at acts
  exact h.elim (· acts.1) acts.2

/-! ## The line hazard, the outstanding offer -/

theorem atHold_of_le {h : Hazard} (hold : 2 ≤ Hazard.rank h) : Hazard.atHold h = true := decide_eq_true hold

theorem atHold_of_lt {h : Hazard} (below : Hazard.rank h < 2) : Hazard.atHold h = false :=
  decide_eq_false (Nat.not_le.2 below)

/-- R33, R35: a reply from the target that names the token of the outstanding offer matches it. -/
theorem matchesOffer_some {tok : Token} {origin : Nat} (offer : s.handoff.offer = some ⟨tok, origin⟩) :
    matchesOffer s tok origin = some ⟨tok, origin⟩ := by
  unfold matchesOffer
  rw [offer]
  simp [Option.filter]

/-- R37: any other reply matches none. -/
theorem matchesOffer_none {tok : Token} {origin : Nat} (offer : s.handoff.offer ≠ some ⟨tok, origin⟩) :
    matchesOffer s tok origin = none := by
  unfold matchesOffer
  rw [Option.filter_eq_none_iff]
  rintro ⟨token, target⟩ held same
  simp only [Bool.and_eq_true, beq_iff_eq] at same
  obtain ⟨rfl, rfl⟩ := same
  exact offer held

/-- R33, R42: with a slot free the withdrawal of an OFFERED entry's offer tells nobody. -/
theorem withdrawOffer_free {o : Offer} (room : s.link.custody.length < 4)
    (applies : requestApplies s o.token .offered = true) :
    withdrawOffer o s = quiet
      { s with
        link := { s.link with custody := s.link.custody ++ [⟨⟨s.loader.own, o.target, .withdraw o.token⟩, 0⟩] },
        handoff := { s.handoff with offer := none, reply := none, retry := some s.cfg.retryMs },
        custody := { s.custody with
          list := s.custody.list.map fun e => if e.pack.token = o.token then { e with state := .ready } else e,
          counts := { s.custody.counts with withdrawals := s.custody.counts.withdrawals.bump } } } := by
  unfold withdrawOffer
  rw [queueWithdraw_free (s := clearOffer s) _ _ room]
  show quiet (startRetry (returnOffered o.token _)) = _
  rw [returnOffered_applied (by exact applies)]
  rfl

end

/-! ## The timers (R34, R36, R40) -/

theorem execReplyTimerExpiry_acts {s : State} {o : Offer} (run : s.running) (offer : s.handoff.offer = some o)
    (timer : s.handoff.reply = some 0) : exec .replyTimerExpiry s = done s (expireReply o s) := by
  show execReplyTimerExpiry s = _
  unfold execReplyTimerExpiry
  rw [offer, timer]
  exact if_pos run

/-- Settles O35: the request "offer returned" applies, or the offer was a re-offer and the list stands. -/
theorem replyExpiryReturnsOffer : Obligations.ReplyExpiryReturnsOffer := by
  unfold Obligations.ReplyExpiryReturnsOffer
  intro o s run offer timer
  rw [execReplyTimerExpiry_acts run offer timer]
  unfold expireReply offersOffered
  cases applies : requestApplies s o.token .offered with
  | true =>
    rw [if_pos rfl, returnOffered_applied (s := clearOffer s) applies]
    refine ⟨_, done_quiet fun may => may, rfl, ?_, ?_, rfl⟩
    · simp [startRetry, changeEntry, clearOffer]
    · intro b
      cases b <;> simp [Block.Same, startRetry, changeEntry, clearOffer]
  | false =>
    refine ⟨_, done_quiet fun may => may, rfl, ?_, ?_, rfl⟩
    · simp [startRetry, clearOffer]
    · intro b
      cases b <;> simp [Block.Same, startRetry, clearOffer]

/-- R29: the retry timer's expiry is a search with the timer stopped. -/
theorem execRetryTimerExpiry_acts {s : State} (run : s.running) (timer : s.handoff.retry = some 0) :
    exec .retryTimerExpiry s = done s (candidateSearch (s.onHandoff fun h => { h with retry := none })) :=
  if_pos ⟨run, timer⟩

/-- R27, pass 1: the search re-offers the restart-marked ADRIFT entry it finds. -/
theorem candidateSearch_reoffer {s : State} {e : Entry} (may : maySearch s) (found : reofferCandidate s = some e) :
    candidateSearch s = makeReoffer e s := by
  unfold candidateSearch
  rw [if_pos may, found]

/-- R27, pass 2: with none, it offers the READY entry it finds. -/
theorem candidateSearch_offer {s : State} {e : Entry} (may : maySearch s) (noReoffer : reofferCandidate s = none)
    (found : offerCandidate s = some e) : candidateSearch s = makeOffer e s := by
  unfold candidateSearch
  rw [if_pos may, noReoffer]
  dsimp only
  rw [found]

theorem candidateSearch_none {s : State} (noReoffer : reofferCandidate s = none) (noOffer : offerCandidate s = none) :
    candidateSearch s = quiet s := by
  unfold candidateSearch
  rw [noReoffer]
  dsimp only
  rw [noOffer, ite_self]

/-- R27: the entry that pass 2 finds is READY. -/
theorem offerCandidate_ready {s : State} {e : Entry} (found : offerCandidate s = some e) : e.state = .ready := by
  have passes := List.find?_some found
  simp only [Bool.and_eq_true, beq_iff_eq] at passes
  exact passes.1.1

/-- R30: with a custody slot free an offer is queued and recorded, OFFERED is requested, and nobody is told. -/
theorem makeOffer_free {s : State} (e : Entry) (room : s.link.custody.length < 4) :
    makeOffer e s = quiet
      { s with
        link := { s.link with
          custody := s.link.custody ++ [⟨⟨s.loader.own, targetOf s.cfg e, .offer e.pack⟩, 0⟩] },
        handoff := { s.handoff with offer := some ⟨e.pack.token, targetOf s.cfg e⟩, reply := some s.cfg.replyMs },
        custody := (requestState e.pack.token .ready .offered id s).custody } := by
  unfold makeOffer
  dsimp only
  rw [queueCustody_free _ _ room]
  show quiet (recordOffer _ _ (requestState _ _ _ _ _)) = _
  rw [requestState_of_custody_eq (s := s) _ _ _ _ (by rfl)]
  rfl

/-- Settles O36: the search by its three cases, each from the state with the retry timer stopped. -/
theorem retryExpirySearchesAndGateCloses : Obligations.RetryExpirySearchesAndGateCloses := by
  unfold Obligations.RetryExpirySearchesAndGateCloses
  refine ⟨fun s run timer role offer room => ?_, fun s timer => ?_⟩
  · rw [execRetryTimerExpiry_acts run timer]
    have may : maySearch (s.onHandoff fun h => { h with retry := none }) := ⟨run, role, offer, rfl⟩
    refine ⟨fun e found => ?_, fun e noReoffer found => ?_, fun noReoffer noOffer => ?_⟩
    · rw [candidateSearch_reoffer may (by exact found)]
      unfold makeReoffer
      rw [queueCustody_free _ _ (by exact room)]
      exact ⟨_, done_quiet fun may => may, rfl, rfl, rfl⟩
    · rw [candidateSearch_offer may (by exact noReoffer) (by exact found)]
      rw [makeOffer_free e (by exact room)]
      refine ⟨_, done_quiet fun may => may, rfl, rfl, requestState_packs _ _ _, fun named free => ?_⟩
      have applies : requestApplies s e.pack.token .ready = true := by
        rw [requestApplies_of_found named, offerCandidate_ready found]
        rfl
      dsimp only
      rw [requestState_applied id (by exact applies) fun _ => by exact free]
      rfl
    · rw [candidateSearch_none (by exact noReoffer) (by exact noOffer)]
      exact done_quiet fun may => may
  · exact congrArg Host.Outcome.next (if_pos timer)

/-- Settles O37: the raising event comes first, and MISSING stands in the queue through the hand-ons. -/
theorem transitExpirySendsMissing : Obligations.TransitExpirySendsMissing := by
  unfold Obligations.TransitExpirySendsMissing
  intro x s run expect timer
  have expires : exec .transitTimerExpiry s = done s (expireTransit x s) := by
    show execTransitTimerExpiry s = _
    unfold execTransitTimerExpiry
    rw [expect, timer]
    exact if_pos run
  have queued : HandOnFrame (closeExpectation s) (expireTransit x s).1 := (queueCustody_frame _ _ _).1
  have loader : (expireTransit x s).1.loader = s.loader :=
    (queueCustody_calm (closeExpectation s) _ _).frame.outside .loader (by decide)
  have runs : (expireTransit x s).1.running := (congrArg Loader.phase loader).trans run
  obtain ⟨t, ht, frame, latched⟩ : ∃ t, done s (expireTransit x s) = .next t
      ∧ HandOnFrame (expireTransit x s).1 t ∧ Latched t .custody := done_latched runs
  rw [expires]
  have all := queued.trans frame
  refine ⟨t, ht, all.expect, all.transit, all.packs, latched, fun room => ?_⟩
  have sent := frame.custodyQueue
  rwa [show (expireTransit x s).1.link.custody = _ from queueCustody_room (s := closeExpectation s) room] at sent

/-! ## OFFER (R31, R32) -/

/-- R31: the tests of Table 14 that a SHREDDER alone makes. -/
def shredderReason (s : State) (p : PackRecord) : Option Reason :=
  if !p.summary.any (·.verdict == .discharged) then some .notDischarged
  else if p.summary.any (fun m => s.cfg.acceptVolts < m.restVolts) then some .overVoltage
  else if p.damaged then some .packClass
  else if s.chamber.state ≠ .inert then some .notInert
  else none

/-- R9: with no expectation open, Table 14's FULL. -/
theorem offerFull_eq {s : State} (expect : s.handoff.expect = none) :
    (stationFull s || (s.cfg.role == .discharge && freeChannels s == 0))
      = decide (16 ≤ s.custody.list.length ∨ s.cfg.role = .discharge ∧ freeChannels s = 0) := by
  rw [stationFull_of_no_expectation expect]
  rw [Bool.eq_iff_iff]
  simp only [Bool.or_eq_true, Bool.and_eq_true, decide_eq_true_eq, beq_iff_eq]

theorem refusalReason_full {s : State} (p : PackRecord) (expect : s.handoff.expect = none)
    (full : 16 ≤ s.custody.list.length ∨ s.cfg.role = .discharge ∧ freeChannels s = 0) :
    refusalReason s p = some .full := by
  unfold refusalReason
  dsimp only
  rw [expect, if_neg (by simp), offerFull_eq expect, if_pos (decide_eq_true full)]

/-- R31: the tests that follow FULL in Table 14, at a station with a place free. -/
theorem refusalReason_room {s : State} (p : PackRecord) (expect : s.handoff.expect = none)
    (room : s.custody.list.length < 16) (channels : s.cfg.role = .discharge → 0 < freeChannels s) :
    refusalReason s p =
      if s.cfg.role ≠ .quarantine ∧ 2 ≤ Hazard.rank s.hazard.line then some .hazard
      else if ∃ e ∈ s.custody.list, e.pack.token = p.token then some .duplicate
      else if s.cfg.role ≠ .quarantine ∧ p.hops = 15 then some .hops
      else if s.cfg.role = .shredder then shredderReason s p else none := by
  have free : ¬ (16 ≤ s.custody.list.length ∨ s.cfg.role = .discharge ∧ freeChannels s = 0) := by
    rintro (full | ⟨role, taken⟩)
    · omega
    · have := channels role
      omega
  unfold refusalReason
  dsimp only
  rw [expect, if_neg (by simp), offerFull_eq expect, decide_eq_false free, if_neg Bool.false_ne_true]
  by_cases shredder : s.cfg.role = .shredder <;> simp [shredder, shredderReason, Hazard.atHold]

/-- Settles O38: FULL before the rest, and the rest in the order of Table 14. -/
theorem refusalReasonsInOrder : Obligations.RefusalReasonsInOrder := by
  unfold Obligations.RefusalReasonsInOrder
  intro s p
  refine ⟨fun busy => if_pos busy, fun expect full => refusalReason_full p expect (.inl full),
    fun expect role taken => refusalReason_full p expect (.inr ⟨role, taken⟩), fun expect room channels role => ?_,
    fun expect room role => ?_⟩
  · rw [refusalReason_room p expect room channels]
    refine ⟨fun hold => if_pos ⟨role, hold⟩, fun below duplicate => ?_, fun below new => ?_⟩
    · rw [if_neg (by omega), if_pos duplicate]
    · have new' : ¬ ∃ e ∈ s.custody.list, e.pack.token = p.token := fun ⟨e, he, same⟩ => new e he same
      rw [if_neg (by omega), if_neg new']
      refine ⟨fun last => if_pos ⟨role, last⟩, fun more other => ?_, fun more shredder bare => ?_,
        fun m more shredder given => ?_⟩
      · rw [if_neg fun h => more h.2, if_neg other]
      · rw [if_neg fun h => more h.2, if_pos shredder]
        simp [shredderReason, bare]
      · rw [if_neg fun h => more h.2, if_pos shredder]
        unfold shredderReason
        rw [given]
        refine ⟨fun verdict => ?_, fun verdict above => ?_, fun verdict low damaged => ?_, fun verdict low sound => ?_⟩
        · simp [verdict]
        · simp [verdict, above]
        · simp [verdict, Nat.not_lt.2 low, damaged]
        · simp [verdict, Nat.not_lt.2 low, sound]
  · rw [refusalReason_room p expect room (by rw [role]; exact fun h => nomatch h)]
    simp [role]

theorem execOfferReceived_takes {s : State} {origin dest : Nat} {p : PackRecord} {rest : List Telegram}
    (rx : s.link.rx = ⟨origin, dest, .offer p⟩ :: rest) (own : origin ≠ s.loader.own) (zero : origin ≠ 0) :
    exec .offerReceived s = takeCustody ⟨origin, dest, .offer p⟩ (decideOffer p origin) s := by
  show execOfferReceived s = _
  unfold execOfferReceived
  rw [oldestTelegram_of_head rx own zero]

/-- Settles O39: the decision is taken with the OFFER out of the receive queue, on which no reason of R31 depends. -/
theorem offerIsDecided : Obligations.OfferIsDecided := by
  unfold Obligations.OfferIsDecided
  intro origin dest p rest s rx own zero
  rw [execOfferReceived_takes rx own zero]
  refine ⟨fun run addressed room => ?_, fun discarded => ?_⟩
  · rw [takeCustody_acts _ run addressed, dropRx_eq rx]
    unfold decideOffer
    refine ⟨fun r refused => ?_, fun accepted => ?_⟩
    · rw [show refusalReason { s with link := { s.link with rx := rest } } p = some r from refused]
      dsimp only
      unfold refuseOffer
      rw [queueCustody_free _ _ (by exact room)]
      exact done_quiet fun may => may
    · rw [show refusalReason { s with link := { s.link with rx := rest } } p = none from accepted]
      dsimp only
      unfold acceptOffer
      rw [queueCustody_free _ _ (by exact room)]
      exact done_quiet fun may => may
  · rw [takeCustody_discards _ discarded, dropRx_eq rx]

/-! ## ACCEPT (R33, R34, R37, R45) -/

theorem execAcceptReceived_acts {s : State} {origin dest : Nat} {tok : Token} {rest : List Telegram}
    (rx : s.link.rx = ⟨origin, dest, .accept tok⟩ :: rest) (own : origin ≠ s.loader.own) (zero : origin ≠ 0)
    (run : s.running) (addressed : dest ≠ 0) :
    exec .acceptReceived s = done s (takeAccept tok origin { s with link := { s.link with rx := rest } }) := by
  show execAcceptReceived s = _
  unfold execAcceptReceived
  rw [oldestTelegram_of_head rx own zero, ← dropRx_eq rx]
  exact takeCustody_acts _ run addressed

theorem takeAccept_matched {s : State} {tok : Token} {origin : Nat} (offer : s.handoff.offer = some ⟨tok, origin⟩) :
    takeAccept tok origin s = matchedAccept ⟨tok, origin⟩ s := by
  unfold takeAccept
  rw [matchesOffer_some offer]

/-- R33, first case, and R34: the pack of an OFFERED entry is released. -/
theorem matchedAccept_releases {s : State} {o : Offer} (applies : requestApplies s o.token .offered = true)
    (below : Hazard.rank s.hazard.line < 2) :
    matchedAccept o s = quiet (openExit (changeEntry o.token
      (fun e => { e with state := .inTransit, target := o.target, adrift := none, restart := false })
      (clearOffer s))) := by
  unfold matchedAccept offersOffered
  rw [if_pos applies, atHold_of_lt below, if_neg Bool.false_ne_true, requestState_applied (s := clearOffer s) _ applies
    (by rintro (h | h) <;> cases h)]

theorem matchedAccept_withdraws {s : State} {o : Offer} (applies : requestApplies s o.token .offered = true)
    (hold : 2 ≤ Hazard.rank s.hazard.line) : matchedAccept o s = withdrawOffer o s := by
  unfold matchedAccept offersOffered
  rw [if_pos applies, if_pos (atHold_of_le hold)]

/-- R45: the re-offer of an ADRIFT entry is accepted. -/
theorem matchedAccept_reoffer {s : State} {o : Offer} (refused : requestApplies s o.token .offered = false) :
    matchedAccept o s = quiet (changeEntry o.token
      (fun e => { e with restart := false, adrift := some (2 * s.cfg.transitMs) }) (clearOffer s)) :=
  if_neg fun applies => absurd (refused.symm.trans applies) Bool.false_ne_true

/-- Settles O40: the four cases of an ACCEPT, by whether it matches, what the offer names and the line hazard. -/
theorem acceptReleasesPack : Obligations.AcceptReleasesPack := by
  unfold Obligations.AcceptReleasesPack
  intro origin dest tok rest s rx own zero run addressed room
  rw [execAcceptReceived_acts rx own zero run addressed]
  refine ⟨fun offer applies below => ?_, fun offer applies hold => ?_, fun offer => ?_, fun e offer found adrift => ?_⟩
  · rw [takeAccept_matched (by exact offer), matchedAccept_releases (by exact applies) (by exact below)]
    refine ⟨_, done_quiet fun may => may, rfl, rfl, rfl, fun b => ?_⟩
    cases b <;> simp [Block.Same, openExit, changeEntry, clearOffer]
  · rw [takeAccept_matched (by exact offer), matchedAccept_withdraws (by exact applies) (by exact hold),
      withdrawOffer_free (by exact room) (by exact applies)]
    exact ⟨_, done_quiet fun may => may, rfl, rfl, rfl, rfl⟩
  · unfold takeAccept lateAccept
    rw [matchesOffer_none (by exact offer)]
    dsimp only
    rw [queueWithdraw_free _ _ (by exact room)]
    exact done_quiet fun may => may
  · rw [takeAccept_matched (by exact offer), matchedAccept_reoffer ((requestApplies_of_found (by exact found) _).trans
      (by rw [adrift]; rfl))]
    exact done_quiet fun may => may

/-! ## REFUSE, WITHDRAW, and a hazard of HOLD (R35, R37, R38, R42) -/

theorem execRefuseReceived_acts {s : State} {origin dest : Nat} {tok : Token} {r : Reason} {rest : List Telegram}
    (rx : s.link.rx = ⟨origin, dest, .refuse tok r⟩ :: rest) (own : origin ≠ s.loader.own) (zero : origin ≠ 0)
    (run : s.running) (addressed : dest ≠ 0) :
    exec .refuseReceived s = done s (takeRefuse tok r origin { s with link := { s.link with rx := rest } }) := by
  show execRefuseReceived s = _
  unfold execRefuseReceived
  rw [oldestTelegram_of_head rx own zero, ← dropRx_eq rx]
  exact takeCustody_acts _ run addressed

theorem execWithdrawReceived_acts {s : State} {origin dest : Nat} {tok : Token} {rest : List Telegram}
    (rx : s.link.rx = ⟨origin, dest, .withdraw tok⟩ :: rest) (own : origin ≠ s.loader.own) (zero : origin ≠ 0)
    (run : s.running) (addressed : dest ≠ 0) :
    exec .withdrawReceived s = done s (takeWithdraw tok { s with link := { s.link with rx := rest } }) := by
  show execWithdrawReceived s = _
  unfold execWithdrawReceived
  rw [oldestTelegram_of_head rx own zero, ← dropRx_eq rx]
  exact takeCustody_acts _ run addressed

theorem takeRefuse_matched {s : State} {tok : Token} {r : Reason} {origin : Nat}
    (offer : s.handoff.offer = some ⟨tok, origin⟩) :
    takeRefuse tok r origin s = quiet (matchedRefuse ⟨tok, origin⟩ r s) := by
  unfold takeRefuse
  rw [matchesOffer_some offer]

/-- R35: the OFFERED entry is READY again with the reason. -/
theorem matchedRefuse_returns {s : State} {o : Offer} (r : Reason)
    (applies : requestApplies s o.token .offered = true) :
    matchedRefuse o r s = startRetry (countCustody (fun c => { c with refusalsReceived := c.refusalsReceived.bump })
      (changeEntry o.token (fun e => { e with refusal := some r, state := .ready }) (clearOffer s))) := by
  unfold matchedRefuse offersOffered
  have applies' : requestApplies (changeEntry o.token (fun e => { e with refusal := some r }) (clearOffer s))
      o.token .offered = true :=
    (requestApplies_changeEntry _ _ _ (fun _ => by rfl) fun _ => by rfl).trans applies
  rw [if_pos applies, returnOffered_applied applies', changeEntry_changeEntry o.token _ fun _ => by rfl]

/-- R45: the re-offer of an ADRIFT entry is refused. -/
theorem matchedRefuse_reoffer {s : State} {o : Offer} (r : Reason)
    (refused : requestApplies s o.token .offered = false) : matchedRefuse o r s = startRetry (clearOffer s) :=
  if_neg fun applies => absurd (refused.symm.trans applies) Bool.false_ne_true

/-- R42: with an offer outstanding, a change of line hazard withdraws it or does nothing. -/
theorem handoffTakesHazard_offer {s : State} {o : Offer} (run : s.running) (role : Role.offers s.cfg.role = true)
    (offer : s.handoff.offer = some o) : handoffTakesHazard s =
      if Hazard.atHold s.hazard.line ∧ offersOffered s o = true then withdrawOffer o s else quiet s := by
  unfold handoffTakesHazard
  rw [if_pos ⟨run, role⟩, offer]

/-- Settles O41: a REFUSE, a WITHDRAW and a change of line hazard, each by what it matches. -/
theorem refuseAndWithdrawEndWaits : Obligations.RefuseAndWithdrawEndWaits := by
  unfold Obligations.RefuseAndWithdrawEndWaits
  refine ⟨fun origin dest tok r rest s rx own zero run addressed => ?_,
    fun origin dest tok rest s rx own zero run addressed => ?_, fun o s run role offer => ?_⟩
  · rw [execRefuseReceived_acts rx own zero run addressed]
    refine ⟨fun offer applies => ?_, fun e offer found adrift => ?_, fun offer => ?_⟩
    · rw [takeRefuse_matched (by exact offer), matchedRefuse_returns r (by exact applies)]
      exact done_quiet fun may => may
    · rw [takeRefuse_matched (by exact offer), matchedRefuse_reoffer r ((requestApplies_of_found (by exact found) _).trans
        (by rw [adrift]; rfl))]
      exact done_quiet fun may => may
    · unfold takeRefuse
      rw [matchesOffer_none (by exact offer)]
      exact done_quiet fun may => may
  · rw [execWithdrawReceived_acts rx own zero run addressed]
    unfold takeWithdraw
    refine ⟨fun x expect named => ?_, fun other => ?_⟩
    · rw [show ({ s with link := { s.link with rx := rest } } : State).handoff.expect = some x from expect]
      dsimp only
      rw [if_pos named]
      exact done_quiet fun may => may
    · cases expect : s.handoff.expect with
      | none => exact done_quiet fun may => may
      | some x =>
        dsimp only
        rw [if_neg (other x expect)]
        exact done_quiet fun may => may
  · rw [handoffTakesHazard_offer run role offer]
    refine ⟨fun hold applies room => ?_, fun stands => if_neg fun ⟨hold, applies⟩ => ?_⟩
    · rw [if_pos ⟨atHold_of_le hold, applies⟩, withdrawOffer_free room applies]
      rfl
    · rcases stands with below | refused
      · exact absurd ((atHold_of_lt below).symm.trans hold) Bool.false_ne_true
      · exact absurd (refused.symm.trans applies) Bool.false_ne_true

end Sys2Proof.Machine
end

/-! CHECK's configuration and the reset values: the proofs of R189's ranges and orders. First what one field of the image
gives, then what each order of pass 3 does, each said once. -/
section
namespace Sys2Proof.Machine

/-! ## Fields with ranges (R189, pass 2) -/

theorem holdBetween_between {low high : Int} (h : low ≤ high) (x : Int) :
    low ≤ holdBetween low high x ∧ holdBetween low high x ≤ high := by
  unfold holdBetween
  omega

/-- A field's value is in its range; that the range is not empty is read off the field. -/
theorem Field.value_between (f : Field) (img : List Byte) (h : decide (f.low ≤ f.high) = true := by rfl) :
    f.low ≤ f.value img ∧ f.value img ≤ f.high := holdBetween_between (of_decide_eq_true h) _

/-- So is the number it gives, times a factor. -/
theorem Field.scaled_between (f : Field) (img : List Byte) (k : Nat) (h : decide (f.low ≤ f.high) = true := by rfl) :
    f.low.toNat * k ≤ f.nat img * k ∧ f.nat img * k ≤ f.high.toNat * k := by
  obtain ⟨low, high⟩ := f.value_between img h
  exact ⟨Nat.mul_le_mul_right k (Int.toNat_le_toNat low), Nat.mul_le_mul_right k (Int.toNat_le_toNat high)⟩

theorem Field.nat_between (f : Field) (img : List Byte) (h : decide (f.low ≤ f.high) = true := by rfl) :
    f.low.toNat ≤ f.nat img ∧ f.nat img ≤ f.high.toNat := by
  simpa using f.scaled_between img 1 h

/-- R189: a downstream field is a station number, and not this station's. -/
theorem downstream_le (f : Field) (role : Role) (own : Nat) (img : List Byte) : downstream f role own img ≤ f.nat img := by
  unfold downstream
  split
  · exact Nat.zero_le _
  · split
    · exact Nat.zero_le _
    · exact Nat.le_refl _

theorem downstream_ne_own (f : Field) (role : Role) {own : Nat} (img : List Byte) (h : own ≠ 0) :
    downstream f role own img ≠ own := by
  unfold downstream
  split
  · exact h.symm
  · split
    · exact h.symm
    · next other => exact other

theorem downstream_endsLine (f : Field) {role : Role} (own : Nat) (img : List Byte)
    (h : role = .shredder ∨ role = .quarantine) : downstream f role own img = 0 := by
  rcases h with rfl | rfl <;> rfl

/-! ## The configuration in force -/

/-- R189, pass 3: the orders write these parts of the configuration and no others. -/
theorem checkImage_config (role : Role) (own : Nat) (img : List Byte) : (checkImage role own img).1 =
    { rangedConfig role own img with
      tCut := (orderTemps (rangedConfig role own img)).tCut
      points := (orderPoints (rangedConfig role own img)).points
      testLines := (orderLines (rangedConfig role own img)).testLines
      o2Warn := (orderOxygen (rangedConfig role own img)).o2Warn
      o2Alarm := (orderOxygen (rangedConfig role own img)).o2Alarm
      listen := (orderListen own (rangedConfig role own img)).listen } := by
  unfold checkImage orderedConfig orderTemps
  dsimp only
  split <;> rfl

/-- R79: T_cut is above T_knee, and stays in range. -/
theorem orderTemps_above {c : Config} (knee : -400 ≤ c.tKnee ∧ c.tKnee ≤ 1999) (cut : -399 ≤ c.tCut ∧ c.tCut ≤ 2000) :
    -399 ≤ (orderTemps c).tCut ∧ (orderTemps c).tCut ≤ 2000 ∧ c.tKnee < (orderTemps c).tCut := by
  unfold orderTemps
  split
  · dsimp only
    omega
  · omega

/-- R130: the oxygen thresholds rise strictly, and stay in range. -/
theorem orderOxygen_rises {c : Config} (run : c.o2Run ≤ 2498) (warn : c.o2Warn ≤ 2499) (alarm : c.o2Alarm ≤ 2500) :
    c.o2Run < (orderOxygen c).o2Warn ∧ (orderOxygen c).o2Warn < (orderOxygen c).o2Alarm
      ∧ (orderOxygen c).o2Alarm ≤ 2500 := by
  unfold orderOxygen
  dsimp only
  split <;> split <;> omega

/-- R92: of two lines that name one point the higher-numbered repeats it. -/
theorem lineRepeats_of_lt {lines : Vector Nat 4} {k l : Fin 4} (lower : k < l) (same : lines[k] = lines[l])
    (used : lines[l] ≠ 0) : lineRepeats lines l = true := by
  unfold lineRepeats
  simp only [Bool.and_eq_true, bne_iff_ne, List.any_eq_true, decide_eq_true_eq, beq_iff_eq]
  exact ⟨used, k, List.mem_finRange k, lower, same⟩

theorem orderLines_line (c : Config) (l : Fin 4) : (orderLines c).testLines[l] =
    if lineRepeats c.testLines l then 0 else c.testLines[l] := tabulate_getElem_fin _ l

theorem orderLines_le (c : Config) (l : Fin 4) : (orderLines c).testLines[l] ≤ c.testLines[l] := by
  rw [orderLines_line]
  split
  · exact Nat.zero_le _
  · exact Nat.le_refl _

/-- R92: a line in use repeats none. -/
theorem orderLines_used {c : Config} {l : Fin 4} (used : (orderLines c).testLines[l] ≠ 0) :
    lineRepeats c.testLines l = false ∧ (orderLines c).testLines[l] = c.testLines[l] := by
  rw [orderLines_line] at used ⊢
  split at used
  · exact absurd rfl used
  · next first => exact ⟨Bool.eq_false_iff.2 first, if_neg first⟩

/-- R92: no two lines in use name one point. -/
theorem orderLines_distinct {c : Config} {k l : Fin 4} (same : (orderLines c).testLines[k] = (orderLines c).testLines[l])
    (used : (orderLines c).testLines[k] ≠ 0) : k = l := by
  obtain ⟨firstK, asK⟩ := orderLines_used used
  obtain ⟨firstL, asL⟩ := orderLines_used (same ▸ used)
  rw [asK] at used same
  rw [asL] at same
  rcases Nat.lt_trichotomy k.val l.val with lower | equal | higher
  · exact absurd (lineRepeats_of_lt lower same (same ▸ used)) (Bool.eq_false_iff.1 firstL)
  · exact Fin.ext equal
  · exact absurd (lineRepeats_of_lt higher same.symm used) (Bool.eq_false_iff.1 firstK)

/-- R155: no listen entry names the station itself. -/
theorem orderListen_entry {own : Nat} {c : Config} {e : ListenEntry} (mem : e ∈ (orderListen own c).listen) :
    e = ⟨0, 0⟩ ∨ e ∈ c.listen ∧ e.station ≠ own := by
  obtain ⟨e', mem', rfl⟩ := List.mem_map.1 mem
  split
  · exact .inl rfl
  · next other => exact .inr ⟨mem', other⟩

/-! ## The point records (R81) -/

/-- R81: a point that pass 3 leaves enabled stood in order, and is as it was. -/
theorem orderPoint_enabled {c : PointCfg} (enabled : (orderPoint c).kind ≠ .disabled) :
    orderPoint c = c ∧ c.warn ≤ c.alarm ∧ c.low ≤ c.high := by
  unfold orderPoint at enabled ⊢
  split at enabled
  · exact absurd rfl enabled
  · next inOrder =>
    have kind : c.kind ≠ .disabled := enabled
    simp only [misordered, Bool.and_eq_true, bne_iff_ne, Bool.or_eq_true, decide_eq_true_eq, not_and, not_or] at inOrder
    obtain ⟨warn, low⟩ := inOrder kind
    exact ⟨if_neg (by simp [misordered, warn, low]), Nat.not_lt.1 warn, Int.not_lt.1 low⟩

/-- R81: a point stands, or is made DISABLED. -/
theorem orderPoint_cases (c : PointCfg) : orderPoint c = c ∨ orderPoint c = { c with kind := .disabled } := by
  unfold orderPoint
  split
  · exact .inr rfl
  · exact .inl rfl

theorem isAnalogue_of_lt {p : PointId} (h : p.val < 8) : isAnalogue p = true := decide_eq_true h

theorem isAnalogue_of_le {p : PointId} (h : 8 ≤ p.val) : isAnalogue p = false := decide_eq_false (Nat.not_lt.2 h)

/-- 13.4: the kinds of points 1 to 8, and of points 9 to 12. -/
theorem imageKind_analogue {p : PointId} (img : List Byte) (h : p.val < 8) :
    imageKind p img ≠ .flame ∧ imageKind p img ≠ .spark := by
  unfold imageKind codeOr
  rw [isAnalogue_of_lt h]
  unfold kindOfCode
  split <;> exact ⟨nofun, nofun⟩

theorem imageKind_pulse {p : PointId} (img : List Byte) (h : 8 ≤ p.val) :
    imageKind p img = .disabled ∨ imageKind p img = .flame ∨ imageKind p img = .spark := by
  unfold imageKind codeOr
  rw [isAnalogue_of_le h]
  unfold kindOfCode
  split <;> simp

/-- Table 20: the numbers of an analogue point. -/
theorem imagePoint_analogue {p : PointId} (img : List Byte) (h : p.val < 8) :
    (imagePoint img p).warn ≤ 65535 ∧ (imagePoint img p).alarm ≤ 65535 ∧ (imagePoint img p).hyst ≤ 65535
      ∧ 1 ≤ (imagePoint img p).span ∧ (imagePoint img p).span ≤ 60 := by
  simp only [imagePoint, fWarn, fAlarm, fSpan, isAnalogue_of_lt h, if_true]
  have threshold (offset : Nat) := (wordField offset 0 65535).nat_between img
  have span := (byteField (pointOffset p + 13) 1 60).nat_between img
  exact ⟨(threshold _).2, (threshold _).2, ((fHyst p).nat_between img).2, span.1, span.2⟩

/-- Table 20: the numbers of a pulse point. -/
theorem imagePoint_pulse {p : PointId} (img : List Byte) (h : 8 ≤ p.val) :
    1 ≤ (imagePoint img p).warn ∧ (imagePoint img p).warn ≤ 255 ∧ 1 ≤ (imagePoint img p).alarm
      ∧ (imagePoint img p).alarm ≤ 255 ∧ 1 ≤ (imagePoint img p).span ∧ (imagePoint img p).span ≤ 10 := by
  simp only [imagePoint, fWarn, fAlarm, fSpan, isAnalogue_of_le h, Bool.false_eq_true, if_false]
  have count (offset : Nat) := (wordField offset 1 255).nat_between img
  have span := (byteField (pointOffset p + 13) 1 10).nat_between img
  exact ⟨(count _).1, (count _).2, (count _).1, (count _).2, span.1, span.2⟩

/-- Table 20: the fault band of an analogue point is in the range of its kind. -/
theorem imagePoint_band {p : PointId} (img : List Byte) (h : p.val < 8) :
    (bandField (imageKind p img) 0).low ≤ (imagePoint img p).low
      ∧ (imagePoint img p).high ≤ (bandField (imageKind p img) 0).high := by
  simp only [imagePoint, isAnalogue_of_lt h, if_true]
  cases imageKind p img <;> exact ⟨(Field.value_between _ img).1, (Field.value_between _ img).2⟩

/-- R81, Table 20: what pass 3 leaves of an analogue point. -/
theorem checkedPoint_analogue {p : PointId} (img : List Byte) (h : p.val < 8) :
    let c := orderPoint (imagePoint img p)
    c.kind ≠ .flame ∧ c.kind ≠ .spark ∧ c.warn ≤ 65535 ∧ c.alarm ≤ 65535 ∧ c.hyst ≤ 65535 ∧ 1 ≤ c.span ∧ c.span ≤ 60
      ∧ (c.kind = .heat → -32768 ≤ c.low ∧ c.high ≤ 32767) ∧ (c.kind = .oxygen → 0 ≤ c.low ∧ c.high ≤ 2500)
      ∧ (c.kind = .vapour → 0 ≤ c.low ∧ c.high ≤ 65535) := by
  obtain ⟨warn, alarm, hyst, spanLow, spanHigh⟩ := imagePoint_analogue img h
  have band := imagePoint_band img h
  obtain ⟨flame, spark⟩ := imageKind_analogue img h
  rcases orderPoint_cases (imagePoint img p) with same | disabled
  · rw [same]
    refine ⟨flame, spark, warn, alarm, hyst, spanLow, spanHigh, fun kind => ?_, fun kind => ?_, fun kind => ?_⟩
    all_goals
      rw [show imageKind p img = _ from kind] at band
      exact band
  · rw [disabled]
    exact ⟨nofun, nofun, warn, alarm, hyst, spanLow, spanHigh, nofun, nofun, nofun⟩

/-- R81, Table 20: what pass 3 leaves of a pulse point. -/
theorem checkedPoint_pulse {p : PointId} (img : List Byte) (h : 8 ≤ p.val) :
    let c := orderPoint (imagePoint img p)
    (c.kind = .disabled ∨ c.kind = .flame ∨ c.kind = .spark) ∧ 1 ≤ c.warn ∧ c.warn ≤ 255 ∧ 1 ≤ c.alarm ∧ c.alarm ≤ 255
      ∧ 1 ≤ c.span ∧ c.span ≤ 10 := by
  have numbers := imagePoint_pulse img h
  rcases orderPoint_cases (imagePoint img p) with same | disabled
  · rw [same]
    exact ⟨imageKind_pulse img h, numbers⟩
  · rw [disabled]
    exact ⟨.inl rfl, numbers⟩

theorem checkedPoint_zone (p : PointId) (img : List Byte) : (orderPoint (imagePoint img p)).zone ≤ 4 := by
  have zone : (imagePoint img p).zone ≤ 4 := ((fPointZone p).nat_between img).2
  rcases orderPoint_cases (imagePoint img p) with e | e <;> rw [e] <;> exact zone

/-- Table 42: the listen table has six entries, each naming a station or none and a zone or none. -/
theorem rangedConfig_listen {role : Role} {own : Nat} {img : List Byte} {e : ListenEntry}
    (mem : e ∈ (rangedConfig role own img).listen) : e.station ≤ 31 ∧ e.zone ≤ 4 := by
  obtain ⟨k, -, rfl⟩ := List.mem_map.1 mem
  exact ⟨((fListenStation k).nat_between img).2, ((fListenZone k).nat_between img).2⟩

/-- Settles O9: each number by its field, and each order by the part of pass 3 that makes it. -/
theorem checkOrdersConfiguration : Obligations.CheckOrdersConfiguration := by
  unfold Obligations.CheckOrdersConfiguration
  intro role own img own_ne
  rw [checkImage_config]
  refine ⟨?stations, ?handoff, ?discharge, fun p => ?point, fun z => ?zone, ?tests, ?hazard, ?listen, ?shredder⟩
  case stations =>
    have station (f : Field) (top : f.nat img ≤ 31) := Nat.le_trans (downstream_le f role own img) top
    exact ⟨(fStatus.scaled_between img 10).1, (fStatus.scaled_between img 10).2, station _ (fPrimary.nat_between img).2,
      station _ (fQuarantine.nat_between img).2, downstream_ne_own _ role img own_ne,
      downstream_ne_own _ role img own_ne,
      fun ends => ⟨downstream_endsLine _ own img ends, downstream_endsLine _ own img ends⟩⟩
  case handoff =>
    exact ⟨(fReply.nat_between img).1, (fReply.nat_between img).2, (fRetry.scaled_between img 100).1,
      (fRetry.scaled_between img 100).2, (fGate.scaled_between img 100).1, (fGate.scaled_between img 100).2,
      (fTransit.scaled_between img 1000).1, (fTransit.scaled_between img 1000).2, (fAccept.nat_between img).2⟩
  case discharge =>
    obtain ⟨cutLow, cutHigh, cutAbove⟩ := orderTemps_above (c := rangedConfig role own img)
      (fTKnee.value_between img) (fTCut.value_between img)
    refine ⟨(fTm.nat_between img).1, (fTm.nat_between img).2, (fVPresent.nat_between img).2, (fVEnd.nat_between img).2,
      (fNEnd.nat_between img).1, (fNEnd.nat_between img).2, (fIMin.nat_between img).2,
      (fNoResp.scaled_between img 1000).1, (fNoResp.scaled_between img 1000).2, (fTMax.scaled_between img 60000).1,
      (fTMax.scaled_between img 60000).2, (fRest.scaled_between img 1000).1, (fRest.scaled_between img 1000).2,
      (fVSafe.nat_between img).2, (fRMax.nat_between img).2, (fTKnee.value_between img).1, (fTKnee.value_between img).2,
      cutLow, cutHigh, cutAbove, (fPMax.nat_between img).1, (fPMax.nat_between img).2, (fDMin.nat_between img).2,
      fun k => ?_⟩
    dsimp only
    rw [show (rangedConfig role own img).channels[k] = _ from tabulate_getElem_fin _ k]
    exact ⟨((fChannelZone k).nat_between img).2, ((fRLoad k).nat_between img).1, ((fRLoad k).nat_between img).2⟩
  case point =>
    have point : (orderPoints (rangedConfig role own img)).points[p] = orderPoint (imagePoint img p) :=
      (tabulate_getElem_fin _ p).trans (congrArg orderPoint (tabulate_getElem_fin _ p))
    dsimp only
    rw [point]
    refine ⟨checkedPoint_zone p img, fun enabled => ?_, checkedPoint_analogue img, checkedPoint_pulse img⟩
    obtain ⟨same, ordered⟩ := orderPoint_enabled enabled
    rw [same]
    exact ordered
  case zone =>
    have window : 1 * 1000 ≤ (fWindow z).nat img * 1000 ∧ (fWindow z).nat img * 1000 ≤ 60 * 1000 :=
      (fWindow z).scaled_between img 1000
    have persist : (fPersist z).nat img * 1000 ≤ 600 * 1000 := ((fPersist z).scaled_between img 1000).2
    dsimp only
    rw [show (rangedConfig role own img).zones[z] = _ from tabulate_getElem_fin _ z]
    exact ⟨window.1, window.2, persist⟩
  case tests =>
    refine ⟨fun _ _ => orderLines_distinct, fun k => Nat.le_trans (orderLines_le _ k) ?_,
      (fTestTime.scaled_between img 1000).1, (fTestTime.scaled_between img 1000).2,
      (fRelease.scaled_between img 1000).1, (fRelease.scaled_between img 1000).2, (fInterval.scaled_between img 3600000).2⟩
    rw [show (rangedConfig role own img).testLines[k] = _ from tabulate_getElem_fin _ k]
    exact ((fTestLine k).nat_between img).2
  case hazard =>
    exact ⟨tabulate_getElem_fin (imageLevel img) _, tabulate_getElem_fin (imageLevel img) _,
      (fStopHold.scaled_between img 1000).1, (fStopHold.scaled_between img 1000).2⟩
  case listen =>
    refine ⟨by simp [orderListen, rangedConfig], fun e mem => ?_⟩
    rcases orderListen_entry mem with rfl | ⟨mem', other⟩
    · exact ⟨own_ne.symm, Nat.zero_le _, Nat.zero_le _⟩
    · obtain ⟨station, zone⟩ := rangedConfig_listen mem'
      exact ⟨other, station, zone⟩
  case shredder =>
    obtain ⟨warn, alarm, top⟩ := orderOxygen_rises (c := rangedConfig role own img)
      (fO2Run.nat_between img).2 (fO2Warn.nat_between img).2 (fO2Alarm.nat_between img).2
    exact ⟨(fChamberZone.nat_between img).2, warn, alarm, top, (fSettle.scaled_between img 1000).1,
      (fSettle.scaled_between img 1000).2, (fPurge.scaled_between img 1000).1, (fPurge.scaled_between img 1000).2,
      (fStall.nat_between img).1, (fStall.nat_between img).2, (fLabour.nat_between img).1, (fLabour.nat_between img).2,
      (fFeed.scaled_between img 1000).1, (fFeed.scaled_between img 1000).2, (fWatermark.nat_between img).1,
      (fWatermark.nat_between img).2⟩

/-! ## The reset values -/

/-- Settles O6: the reset state is closed, and its fields are read off; the tables by their entry. -/
theorem resetStateHoldsSpecValues : Obligations.ResetStateHoldsSpecValues := by
  unfold Obligations.ResetStateHoldsSpecValues
  have channel (c : ChannelId) : State.reset.channels[c] = Channel.reset := Vector.getElem_replicate ..
  have peer (p : PeerId) : State.reset.peers.entries[p] = PeerEntry.reset := Vector.getElem_replicate ..
  refine ⟨rfl, fun c => ?_, rfl, rfl, rfl, rfl, rfl, rfl, rfl, rfl, rfl, rfl, fun p => ?_, rfl, rfl, rfl, rfl, rfl, rfl,
    rfl, rfl, rfl⟩
  · rw [channel]
    exact ⟨rfl, rfl, rfl, rfl⟩
  · rw [peer]
    exact ⟨rfl, rfl⟩

end Sys2Proof.Machine
end

/-! Zones and the confirmation of a fire: the proofs of R100 to R107. First what the hand-ons of a zone's change come to,
each said once: a change that nobody but the point scanner looks at, and an entry to CONFIRMED. -/
section
namespace Sys2Proof.Machine

/-! ## The end of a command that changes a zone -/

/-- R145: a change that loses no feed condition leaves FEED as it stands. -/
theorem Fx.closing_eq_self {s : State} {r : Fx} (h : mayFeed s → mayFeed r.1) : r.closing s = r := by
  rcases Fx.closing_cases s r with e | ⟨_, -, may, lost, -⟩
  · exact e
  · exact absurd (h may) lost

/-- R94, R96: with no round in progress the scanner's look at a zone's change leaves the command at its end. -/
theorem done_zoneChanged {s u : State} (calm : u.calm) (feed : mayFeed s → mayFeed u) :
    done s (u, zoneChanged) = .next u := by
  have look : take .scannerLook u = quiet u := by
    have e : hand .scannerLook u = quiet u := scannerLook_calm u calm
    rw [take, e]
    exact Fx.closing_eq_self id
  have settled : settle 10000 [] [.scannerLook] u = u := by
    rw [settle, look]
    rfl
  rw [done, Fx.closing_eq_self feed]
  exact congrArg _ settled

/-- The end of a command whose first notice is taken at once, with the notices then in flight. -/
theorem finish_cons_eq {s : State} {n : Notice} {ns : List Notice} (h : n.later = false) :
    finish (s, n :: ns) = settle 9999 (promptly (take n s).2 ++ promptly ns)
      (afterwards ns ++ afterwards (take n s).2) (take n s).1 := by
  have now : promptly (n :: ns) = n :: promptly ns := List.filter_cons_of_pos (by simp [h])
  have late : afterwards (n :: ns) = afterwards ns := List.filter_cons_of_neg (by simp [h])
  rw [finish, now, late]
  rfl

/-- From the first notice on, the end of every command but the restore key's keeps `FireFrame`. -/
theorem finish_cons_fire {s : State} {n : Notice} {ns : List Notice} (prompt : n.later = false)
    (hn : Notice.restores n = false) (hns : ∀ m ∈ ns, Notice.restores m = false) :
    FireFrame (hand n s).1 (finish (s, n :: ns)) := by
  have first := take_fire s n hn
  rw [finish_cons_eq prompt]
  refine settle_keeps (C := fun m => Notice.restores m = false) (P := fun t => FireFrame (hand n s).1 t)
    (fun m t hm h => ⟨h.trans (take_fire t m hm).1, (take_fire t m hm).2⟩) _ _ _ _ ?_ ?_ (closing_fire s _)
  · intro m hm
    rcases List.mem_append.1 hm with hm | hm
    · exact first.2 m (List.mem_filter.1 hm).1
    · exact hns m (List.mem_filter.1 hm).1
  · intro m hm
    rcases List.mem_append.1 hm with hm | hm
    · exact hns m (List.mem_filter.1 hm).1
    · exact first.2 m (List.mem_filter.1 hm).1

/-! ## The evaluator's latch and the stop burst (R116, R122, R172) -/

/-- No hand-on takes a joined station off the line. -/
theorem joined_of_frame {s t : State} (h : HandOnFrame s t) (join : joined s) : joined t := by
  obtain ⟨on, same | emits⟩ := h.joined
  · exact ⟨on.trans join.1, same ▸ join.2⟩
  · exact ⟨on.trans join.1, by simp [emits]⟩

/-- R172: a hand-on leaves a stop burst on the line. -/
theorem emitting_of_frame {s t : State} (h : HandOnFrame s t) (emits : s.link.state = .emitting) :
    t.link.state = .emitting := h.joined.2.elim (·.trans emits) id

theorem requestBurst_emits {s : State} (join : joined s) : (requestBurst s).link.state = .emitting := by
  rw [requestBurst, if_pos join]
  rfl

/-- In RUN a reassessment with a zone's latch set leaves ZONE_CONFIRMED active. -/
theorem reassess_zoneLatched {s : State} {z : ZoneId} (run : s.running) (latch : s.hazard.zoneLatch[z] = true) :
    ZoneLatched (reassess s).1 z := by
  have kept : (reassess s).1.hazard.zoneLatch = s.hazard.zoneLatch := by
    obtain ⟨k, e⟩ := reassess_hazard s run
    rw [e]
    rfl
  have holds : condition s .zoneConfirmed = true :=
    List.any_eq_true.2 ⟨_, Vector.mem_toList_iff.2 (Vector.getElem_mem z.isLt), latch⟩
  exact ⟨by rw [kept]; exact latch, (reassess_active s run .zoneConfirmed).1.trans holds⟩

/-- R116: in RUN a zone's entry to CONFIRMED sets its latch and makes ZONE_CONFIRMED active. -/
theorem latchZone_latched {s : State} (run : s.running) (z : ZoneId) (p : PointId) : ZoneLatched (latchZone z p s).1 z := by
  rw [latchZone, if_pos run]
  refine (requestBurst_fire _).zoneLatched z ((announce_calm _ _ _).zoneLatched z (reassess_zoneLatched run ?_))
  simp

/-- R122, R172: in RUN a zone's entry to CONFIRMED has a joined station emit a stop burst. -/
theorem latchZone_emits {s : State} (run : s.running) (join : joined s) (z : ZoneId) (p : PointId) :
    (latchZone z p s).1.link.state = .emitting := by
  rw [latchZone, if_pos run]
  exact requestBurst_emits (joined_of_frame (announce_frame _ _ _) (joined_of_frame (reassess_frame _).1 join))

/-- R102, R111: the end of a command in RUN by which a zone enters CONFIRMED: what the effect `u` says of the zone stands,
its latch makes ZONE_CONFIRMED active, and a joined station emits a stop burst. -/
theorem done_zoneConfirmed {s u : State} {ns : List Notice} (z : ZoneId) (p : PointId) (run : u.running)
    (feed : mayFeed s → mayFeed u) (hns : ∀ m ∈ ns, Notice.restores m = false) :
    ∃ t, done s (u, .zoneConfirmed z p :: ns) = .next t ∧ FireFrame u t ∧ ZoneLatched t z
      ∧ (joined u → t.link.state = .emitting) := by
  have rest : FireFrame (latchZone z p u).1 (finish (u, .zoneConfirmed z p :: ns)) :=
    finish_cons_fire (n := .zoneConfirmed z p) rfl rfl hns
  have frame : HandOnFrame (latchZone z p u).1 (finish (u, .zoneConfirmed z p :: ns)) :=
    finish_cons_frame (n := .zoneConfirmed z p) rfl
  refine ⟨_, by rw [done, Fx.closing_eq_self feed], (latchZone_fire u z p).1.trans rest,
    rest.zoneLatched z (latchZone_latched run z p), fun join => emitting_of_frame frame (latchZone_emits run join z p)⟩

/-! ## One zone changed, and its entry to CONFIRMED (R102) -/

theorem changeZone_only (z : ZoneId) (f : Zone → Zone) (s : State) : OnlyTouches [.zones] s (changeZone z f s) := by
  intro b
  cases b <;> simp [Block.Same, changeZone]

@[simp] theorem changeZone_same (z : ZoneId) (f : Zone → Zone) (s : State) :
    (changeZone z f s).zones.zones[z] = f s.zones.zones[z] := by
  rw [changeZone_getElem, if_pos rfl]

/-- R100: the zone of a member. -/
theorem zoneOfNumber_of_isMember {cfg : Config} {z : ZoneId} {p : PointId} (h : isMember cfg z p = true) :
    zoneOfNumber cfg.points[p].zone = some z := by
  have number : cfg.points[p].zone = z.val + 1 := by
    rw [isMember, Bool.and_eq_true, beq_iff_eq] at h
    exact h.1
  have range : 1 ≤ z.val + 1 ∧ z.val + 1 ≤ 4 := ⟨Nat.le_add_left _ _, z.isLt⟩
  rw [number, zoneOfNumber, dif_pos range]
  rfl

@[simp] theorem confirmZone_zone (z : ZoneId) (p : PointId) (b : Basis) (s : State) :
    (confirmZone z p b s).1.zones.zones[z] = confirmRecord p b s.clock s.zones.zones[z] :=
  changeZone_same z _ s

theorem confirmZone_persist {z : ZoneId} {q : PointId} {s : State} (p : PointId) (b : Basis)
    (member : isMember s.cfg z q = true) : (confirmZone z p b s).1.zones.persist[q] = none := by
  have e : (confirmZone z p b s).1.zones.persist[q]
      = if isMember s.cfg z q then none else s.zones.persist[q] := tabulate_getElem_fin _ _
  rw [e, if_pos member]

/-- R102, R116, R172: the end of a command in RUN by which a zone enters CONFIRMED, read off its record. -/
theorem done_confirmZone {s u : State} (z : ZoneId) (p : PointId) (b : Basis) (run : u.running)
    (feed : mayFeed s → mayFeed u) :
    ∃ t, done s (confirmZone z p b u) = .next t ∧ t.zones.zones[z].status = .confirmed
      ∧ t.zones.zones[z].basis = some b ∧ t.zones.zones[z].confirming = some p
      ∧ t.zones.zones[z].confirmTime = some u.clock
      ∧ t.zones.zones[z].counts.confirmations = u.zones.zones[z].counts.confirmations.bump
      ∧ (∀ q : PointId, isMember u.cfg z q = true → t.zones.persist[q] = none) ∧ ZoneLatched t z
      ∧ (joined u → t.link.state = .emitting) := by
  have told : ∀ n ∈ Notice.chamberConfirmed z :: zoneChanged, Notice.restores n = false := by
    simp [zoneChanged, Notice.restores]
  obtain ⟨t, answer, fire, latched, emits⟩ := done_zoneConfirmed (u := (confirmZone z p b u).1) z p run feed told
  have entered : (confirmZone z p b u).1.zones.zones[z].status = .confirmed := by rw [confirmZone_zone]; rfl
  obtain ⟨status, confirming, basis, time, counts⟩ := fire.zones z entered
  rw [confirmZone_zone] at confirming basis time counts
  refine ⟨t, answer, status, basis, confirming, time, by rw [counts]; rfl, fun q member => ?_, latched, emits⟩
  exact fire.persist z q (zoneOfNumber_of_isMember member) entered (confirmZone_persist p b member)

/-! ## The window and the persistence timers (R105, R107) -/

theorem execZoneWindowExpiry_acts {z : ZoneId} {s : State} (run : s.running)
    (pending : s.zones.zones[z].status = .pending) (window : s.zones.zones[z].window = .running 0) :
    exec (.zoneWindowExpiry z) s = done s (expireWindow z s) :=
  if_pos ⟨run, pending, window⟩

theorem execPersistenceExpiry_acts {p : PointId} {s : State} (run : s.running) (timer : s.zones.persist[p] = some 0) :
    exec (.persistenceExpiry p) s = done s (expirePersistence p s) :=
  if_pos ⟨run, timer⟩

/-- R105: a member is still in ALARM at the end of the zone's window (log 37: the held point or another one). -/
def windowHolds (z : ZoneId) (s : State) : Bool :=
  s.zones.zones[z].heldPoint.any (fun p => s.zones.members[p] == .alarm) || (alarmingMember s z).isSome

/-- R105: what becomes of the zone's record at the end of its window. -/
def afterWindow (z : ZoneId) (s : State) : Zone → Zone :=
  if windowHolds z s then fun r => { r with window := .lapsed } else quietRecord

theorem expireWindow_eq (z : ZoneId) (s : State) :
    expireWindow z s = (changeZone z (afterWindow z s) s, zoneChanged) := by
  cases h : windowHolds z s with
  | true => rw [afterWindow, h]; exact if_pos h
  | false => rw [afterWindow, h]; exact if_neg (Bool.eq_false_iff.1 h)

/-- R107: the persistence timer of a member of a zone in QUIET or PENDING stops, and the zone confirms by it. -/
theorem expirePersistence_confirms {p : PointId} {z : ZoneId} {s : State}
    (zone : zoneOfNumber s.cfg.points[p].zone = some z)
    (status : s.zones.zones[z].status = .quiet ∨ s.zones.zones[z].status = .pending) :
    expirePersistence p s
      = confirmZone z p .persistence (s.onZones fun k => { k with persist := k.persist.set p none }) := by
  unfold expirePersistence
  simp only [State.onZones_cfg, zone]
  exact if_pos status

/-- Settles O31: the window's end changes one record, and with no round in progress nobody takes it further; a persistence
timer's end is an entry to CONFIRMED. -/
theorem zoneTimersDecideZone : Obligations.ZoneTimersDecideZone := by
  unfold Obligations.ZoneTimersDecideZone
  constructor
  · intro z s run pending window calm
    refine ⟨changeZone z (afterWindow z s) s, ?_, fun held => ?_, fun left others => ?_, changeZone_only z _ s⟩
    · rw [execZoneWindowExpiry_acts run pending window, expireWindow_eq]
      exact done_zoneChanged calm id
    · have holds : windowHolds z s = true := Bool.or_eq_true_iff.2 held
      rw [changeZone_same, afterWindow, if_pos holds]
    · have ended : windowHolds z s = false := by rw [windowHolds, left, others]; rfl
      rw [changeZone_same, afterWindow, ended]
      rfl
  · intro p z s run timer zone status
    rw [execPersistenceExpiry_acts run timer, expirePersistence_confirms zone status]
    exact done_confirmZone z p .persistence run id

end Sys2Proof.Machine
end

/-! The inert atmosphere: the proofs of R132 to R136. First what each operation of the atmosphere controller does, each said
once. -/
section
namespace Sys2Proof.Machine

section
variable {s : State}

/-! ## The atmosphere controller (R129 to R136) -/

/-- R136: a report of the O2_HIGH condition writes the condition as it stands, and nothing else. -/
theorem reportOxygen_state (s : State) :
    (reportOxygen s).1 = s.onChamber fun c => { c with o2High := oxygenHigh s.cfg s.chamber } := by
  unfold reportOxygen
  dsimp only
  split
  · next same =>
    rw [same]
    rfl
  · rfl

/-- R136: the condition goes to the evaluator and to nobody else. -/
theorem reportOxygen_notices {n : Notice} (h : n ∈ (reportOxygen s).2) : n = .fact (.oxygen (oxygenHigh s.cfg s.chamber)) := by
  unfold reportOxygen at h
  dsimp only at h
  split at h
  · cases h
  · exact List.mem_singleton.1 h

/-- R131, R136: a change of the chamber, reported, brings calm notices alone. -/
theorem reportOxygen_told_calm {ns : List Notice} (told : ∀ n ∈ ns, n ∈ atmosphereTold) :
    ∀ n ∈ ((reportOxygen s).tell ns).2, Notice.isCalm n = true ∧ (n = .assign → noneWaiting (reportOxygen s).1) := by
  intro n hn
  rcases List.mem_append.1 hn with report | look
  · rw [reportOxygen_notices report]
    exact ⟨rfl, nofun⟩
  · rcases List.mem_cons.1 (told n look) with rfl | rest
    · exact ⟨rfl, nofun⟩
    · rw [List.mem_singleton.1 rest]
      exact ⟨rfl, nofun⟩

/-- A command whose own effect is a reported change of the chamber ends, with no round of self-tests in progress, with the
chamber of that effect. -/
theorem done_reportOxygen (b u : State) {ns : List Notice} (told : ∀ n ∈ ns, n ∈ atmosphereTold) :
    ∃ t, done b ((reportOxygen u).tell ns) = .next t
      ∧ (u.calm → t.chamber = { u.chamber with o2High := oxygenHigh u.cfg u.chamber }) := by
  refine ⟨_, rfl, fun calm => ?_⟩
  have effect : ((reportOxygen u).tell ns).1 = _ := reportOxygen_state u
  obtain ⟨t, answer, frame⟩ := done_calm (s := b) (r := (reportOxygen u).tell ns) (by rw [effect]; exact calm)
    (reportOxygen_told_calm told)
  cases answer
  have chamber : _ = ((reportOxygen u).tell ns).1.chamber := frame.outside .chamber (by decide)
  rw [chamber, effect]
  rfl

theorem expireSettle_eq (h : s.chamber.state = .purge ∨ s.chamber.state = .degraded) :
    expireSettle s = (reportOxygen (s.onChamber enterInert)).tell atmosphereTold := if_pos h

theorem expirePurge_eq (s : State) :
    expirePurge s = (reportOxygen (s.onChamber fun c => { c with purge := none, overrun := true })).tell [] := by
  simp [expirePurge, Fx.tell]

/-- R132, R136: the settle timer runs from the entry exactly where the oxygen is at or below O2_run. -/
theorem settleSetUp_eq (cfg : Config) (o : Option Nat) :
    settleSetUp cfg o = if oxygenValue o ≤ cfg.o2Run then some cfg.settleMs else none := by
  simp only [settleSetUp, settledOxygen, decide_eq_true_eq]

/-- R132: the settle timer at a change of oxygen: cleared above O2_run, started on the way down to it, else kept. -/
theorem settleStep_eq (cfg : Config) (before now : Option Nat) (t : Timer) :
    settleStep cfg (settledOxygen cfg before) (settledOxygen cfg now) t =
      if cfg.o2Run < oxygenValue now then none
      else if cfg.o2Run < oxygenValue before then some cfg.settleMs else t := by
  unfold settleStep settledOxygen
  by_cases above : cfg.o2Run < oxygenValue now
  · simp [above, Nat.not_le.2 above]
  · simp [above, Nat.not_lt.1 above]

/-- R132: in PURGE and DEGRADED a change of oxygen moves the settle timer alone. -/
theorem oxygenStep_spell {cfg : Config} {c : Chamber} (o : Option Nat) (h : c.state = .purge ∨ c.state = .degraded) :
    oxygenStep cfg o c =
      { c with oxygen := o, settle := settleStep cfg (settledOxygen cfg c.oxygen) (settledOxygen cfg o) c.settle } := by
  unfold oxygenStep
  rcases h with h | h <;> rw [h]

theorem oxygenStep_inert {cfg : Config} {c : Chamber} (o : Option Nat) (h : c.state = .inert) :
    oxygenStep cfg o c = inertStep cfg { c with oxygen := o } := by
  unfold oxygenStep
  rw [h]

/-- R133: in INERT an oxygen below O2_warn moves the PURGE valve alone. -/
theorem inertStep_below {cfg : Config} {c : Chamber} (h : oxygenValue c.oxygen < cfg.o2Warn) :
    inertStep cfg c = { c with
      purgeOpen := (if oxygenValue c.oxygen ≤ cfg.o2Run then false
        else if oxygenValue c.oxygen ≤ openPoint cfg then c.purgeOpen else true) } := by
  unfold inertStep
  dsimp only
  rw [if_pos h]
  split
  · rfl
  · split <;> rfl

/-- R130: the open point lies below O2_warn. -/
theorem openPoint_lt {cfg : Config} (h : cfg.o2Run < cfg.o2Warn) : openPoint cfg < cfg.o2Warn := by
  unfold openPoint
  omega

/-- R133: in INERT an oxygen at or above O2_warn leads to DEGRADED. -/
theorem inertStep_warn {cfg : Config} {c : Chamber} (order : cfg.o2Run < cfg.o2Warn)
    (h : cfg.o2Warn ≤ oxygenValue c.oxygen) :
    inertStep cfg c = { enterSpell .degraded cfg c with degradedEntries := c.degradedEntries.bump } := by
  have openBelow := openPoint_lt order
  unfold inertStep
  dsimp only
  rw [if_neg (by omega), if_neg (by omega), if_neg (by omega)]

/-- R129: in every state the controller takes the new value. -/
theorem oxygenStep_oxygen (cfg : Config) (o : Option Nat) (c : Chamber) : (oxygenStep cfg o c).oxygen = o := by
  unfold oxygenStep
  dsimp only
  split
  · rfl
  · rfl
  · unfold inertStep
    dsimp only
    split
    · rfl
    · split
      · rfl
      · split <;> rfl
  · rfl
  · rfl

/-- R129: what a change of oxygen leaves of the chamber. -/
theorem workOxygen_chamber (acts : chamberActs s) (changed : chamberOxygen s ≠ s.chamber.oxygen) :
    (workOxygen s).1.chamber = { oxygenStep s.cfg (chamberOxygen s) s.chamber with
      o2High := oxygenHigh s.cfg (oxygenStep s.cfg (chamberOxygen s) s.chamber) } := by
  unfold workOxygen
  dsimp only
  rw [if_pos ⟨acts, changed⟩]
  exact congrArg State.chamber (reportOxygen_state _)

/-- R131: a change of oxygen that leads to another atmosphere state is told to the rotor monitor and the feed monitor. -/
theorem workOxygen_told (acts : chamberActs s) (changed : chamberOxygen s ≠ s.chamber.oxygen)
    (moved : (oxygenStep s.cfg (chamberOxygen s) s.chamber).state ≠ s.chamber.state) {n : Notice}
    (h : n ∈ atmosphereTold) : n ∈ (workOxygen s).2 := by
  unfold workOxygen
  dsimp only
  rw [if_pos ⟨acts, changed⟩]
  refine List.mem_append.2 (.inr ?_)
  split
  · next same => exact absurd same moved
  · exact h

/-- R134: a zone's entry to CONFIRMED outside FLOOD is an entry to FLOOD. -/
theorem chamberTakesConfirmed_chamber (z : ZoneId) (acts : chamberActs s)
    (h : s.chamber.state = .purge ∨ s.chamber.state = .inert ∨ s.chamber.state = .degraded) :
    let c := enterFlood { s.chamber with confirmed := s.chamber.confirmed.set z true }
    (chamberTakesConfirmed z s).1.chamber = { c with o2High := oxygenHigh s.cfg c } := by
  have enters : chamberTakesConfirmed z s = (reportOxygen ((s.onChamber fun c =>
      { c with confirmed := c.confirmed.set z true }).onChamber enterFlood)).tell atmosphereTold := by
    unfold chamberTakesConfirmed
    rw [if_pos acts]
    dsimp only [State.onChamber_chamber]
    rcases h with h | h | h <;> rw [h]
  rw [enters]
  exact congrArg State.chamber (reportOxygen_state _)

/-! ## The way out of FLOOD (R135) -/

theorem any_id_eq_false_iff {n : Nat} (v : Vector Bool n) : v.toList.any id = false ↔ ∀ i : Fin n, v[i] = false := by
  rw [List.any_eq_false]
  refine ⟨fun h i => ?_, fun h b mem => ?_⟩
  · exact Bool.eq_false_iff.2 (h _ (Vector.mem_toList_iff.2 (Vector.getElem_mem i.isLt)))
  · obtain ⟨i, hi, rfl⟩ := Vector.mem_iff_getElem.1 (Vector.mem_toList_iff.1 mem)
    exact Bool.eq_false_iff.1 (h ⟨i, hi⟩)

/-- With one entry cleared, the others decide whether any is left. -/
theorem cleared_getElem {n : Nat} (v : Vector Bool n) (z y : Fin n) :
    (v.set z false)[y] = if y = z then false else v[y] := by
  simp [Vector.getElem_set, Fin.ext_iff, eq_comm]

/-- R135: with no zone CONFIRMED the chamber leaves FLOOD for PURGE, reported and told. -/
theorem leaveFlood_leaves (flood : s.chamber.state = .flood) (noFire : ∀ y : ZoneId, s.chamber.confirmed[y] = false) :
    leaveFlood s = (reportOxygen (s.onChamber (enterSpell .purge s.cfg))).tell atmosphereTold :=
  if_pos ⟨flood, (any_id_eq_false_iff _).2 noFire⟩

/-- R135: outside FLOOD, or with a zone CONFIRMED, the chamber stays. -/
theorem leaveFlood_stays (h : s.chamber.state ≠ .flood ∨ ∃ y : ZoneId, s.chamber.confirmed[y] = true) :
    leaveFlood s = quiet s := by
  refine if_neg ?_
  rintro ⟨flood, noFire⟩
  rcases h with other | ⟨y, confirmed⟩
  · exact other flood
  · exact Bool.false_ne_true (((any_id_eq_false_iff _).1 noFire y).symm.trans confirmed)

theorem leaveFlood_chamber (flood : s.chamber.state = .flood) (noFire : ∀ y : ZoneId, s.chamber.confirmed[y] = false) :
    (leaveFlood s).1.chamber = { enterSpell .purge s.cfg s.chamber with
      o2High := oxygenHigh s.cfg (enterSpell .purge s.cfg s.chamber) } := by
  rw [leaveFlood_leaves flood noFire]
  exact congrArg State.chamber (reportOxygen_state _)

theorem leaveFlood_told (flood : s.chamber.state = .flood) (noFire : ∀ y : ZoneId, s.chamber.confirmed[y] = false)
    {n : Notice} (h : n ∈ atmosphereTold) : n ∈ (leaveFlood s).2 := by
  rw [leaveFlood_leaves flood noFire]
  exact List.mem_append.2 (.inr h)

/-- R131, R135: PURGE as it is entered on the way out of FLOOD. -/
theorem leaveFlood_purges (flood : s.chamber.state = .flood) (noFire : ∀ y : ZoneId, s.chamber.confirmed[y] = false) :
    (leaveFlood s).1.chamber.state = .purge ∧ (leaveFlood s).1.chamber.floodOpen = false
      ∧ (leaveFlood s).1.chamber.purgeOpen = true ∧ (leaveFlood s).1.chamber.purge = some s.cfg.purgeMs
      ∧ (leaveFlood s).1.chamber.settle
        = (if oxygenValue s.chamber.oxygen ≤ s.cfg.o2Run then some s.cfg.settleMs else none) := by
  rw [leaveFlood_chamber flood noFire]
  exact ⟨rfl, rfl, rfl, rfl, settleSetUp_eq _ _⟩

theorem chamberTakesCleared_eq (z : ZoneId) (acts : chamberActs s) : chamberTakesCleared z s =
    leaveFlood (s.onChamber fun c => { c with confirmed := c.confirmed.set z false }) := if_pos acts

theorem chamberTakesRestore_eq (acts : chamberActs s) : chamberTakesRestore s = leaveFlood s := if_pos acts

end

/-- Settles O53: each timer's expiry is a reported change of the chamber; each other event is read off the chamber that its
operation leaves, by the state it finds. -/
theorem chamberTimersAndFlood : Obligations.ChamberTimersAndFlood := by
  unfold Obligations.ChamberTimersAndFlood
  refine ⟨fun s acts timer spell => ?settle, fun s acts timer => ?purge, fun z s acts spell => ?confirmed,
    fun s acts changed order => ?oxygen, fun z s acts => ?cleared⟩
  case settle =>
    have expires : exec .settleTimerExpiry s = done s (expireSettle s) := if_pos ⟨acts, timer⟩
    rw [expires, expireSettle_eq spell]
    obtain ⟨t, answer, chamber⟩ := done_reportOxygen s (s.onChamber enterInert) fun _ => id
    exact ⟨t, answer, fun calm => (chamber calm).trans
      (congrArg (fun b => { enterInert s.chamber with o2High := b }) (Bool.or_false _))⟩
  case purge =>
    have expires : exec .purgeTimerExpiry s = done s (expirePurge s) := if_pos ⟨acts, timer⟩
    rw [expires, expirePurge_eq]
    obtain ⟨t, answer, chamber⟩ := done_reportOxygen s
      (s.onChamber fun c => { c with purge := none, overrun := true }) (ns := []) nofun
    exact ⟨t, answer, fun calm => (chamber calm).trans
      (congrArg (fun b => { s.chamber with purge := none, overrun := true, o2High := b }) (Bool.or_true _))⟩
  case confirmed =>
    dsimp only
    rw [chamberTakesConfirmed_chamber z acts spell]
    exact ⟨rfl, rfl, rfl, rfl, rfl, rfl, by simp [enterFlood]⟩
  case oxygen =>
    dsimp only
    rw [workOxygen_chamber acts changed]
    refine ⟨oxygenStep_oxygen _ _ _, fun spell => ?_, fun inert => ⟨fun below => ?_, fun warn => ?_⟩⟩
    · rw [oxygenStep_spell _ spell]
      exact ⟨rfl, rfl, settleStep_eq _ _ _ _⟩
    · have below : oxygenValue (chamberOxygen s) < s.cfg.o2Warn := below
      rw [oxygenStep_inert _ inert, inertStep_below below]
      exact ⟨inert, rfl, rfl⟩
    · have warn : s.cfg.o2Warn ≤ oxygenValue (chamberOxygen s) := warn
      have degrades := (oxygenStep_inert (chamberOxygen s) inert).trans (inertStep_warn order warn)
      have moved : (oxygenStep s.cfg (chamberOxygen s) s.chamber).state ≠ s.chamber.state := by
        rw [degrades, inert]
        exact nofun
      have stopped : settleSetUp s.cfg (chamberOxygen s) = none := by
        rw [settleSetUp_eq, if_neg (Nat.not_le.2 (Nat.lt_of_lt_of_le order warn))]
      rw [degrades]
      exact ⟨rfl, rfl, stopped, rfl, rfl, workOxygen_told acts changed moved (by simp [atmosphereTold]),
        workOxygen_told acts changed moved (by simp [atmosphereTold])⟩
  case cleared =>
    dsimp only
    rw [chamberTakesCleared_eq z acts, chamberTakesRestore_eq acts]
    refine ⟨fun flood others => ?_, fun stays => ?_, leaveFlood_purges, fun stays => by rw [leaveFlood_stays stays]; rfl⟩
    · have flood : (s.onChamber fun c => { c with confirmed := c.confirmed.set z false }).chamber.state = .flood := flood
      have noFire : ∀ y : ZoneId, (s.chamber.confirmed.set z false)[y] = false := fun y => by
        rw [cleared_getElem]
        split
        · rfl
        · next other => exact others y other
      exact ⟨leaveFlood_purges flood noFire,
        leaveFlood_told flood noFire (by simp [atmosphereTold]), leaveFlood_told flood noFire (by simp [atmosphereTold])⟩
    · rw [leaveFlood_stays (s := s.onChamber _)]
      · rfl
      · refine stays.imp_right fun ⟨y, other, confirmed⟩ => ⟨y, ?_⟩
        exact (cleared_getElem _ _ _).trans ((if_neg other).trans confirmed)

end Sys2Proof.Machine
end

/-! The rotor: the proofs of R138 to R141. First what a look, a pulse and a captured period do, each said once. -/
section
namespace Sys2Proof.Machine

section
variable {s : State}

/-! ## RUN (R138) -/

theorem setLabour_same {b : Bool} (h : s.rotor.labour = b) : setLabour b s = quiet s := if_pos h.symm

/-- R141: whatever it was, the labour condition is written, and nothing else; a change of it is told. -/
theorem setLabour_eq (b : Bool) (s : State) : setLabour b s = (s.onRotor fun r => { r with labour := b },
    if s.rotor.labour = b then [] else [.fact (.labour b), .feedLook]) := by
  by_cases same : s.rotor.labour = b
  · rw [setLabour_same same, if_pos same, ← same]
    rfl
  · rw [if_neg same]
    exact if_neg (Ne.symm same)

/-- R138: a look with the conditions of RUN leaves RUN asserted. -/
theorem rotorLook_runs (h : mayTurn s) : (rotorLook s).1.rotor.run = true := by
  unfold rotorLook
  rw [if_pos h]
  split
  · next run => exact run
  · exact congrArg (·.1.rotor.run) (setLabour_eq _ _)

/-- R138: a look without them leaves RUN deasserted. -/
theorem rotorLook_stops (h : ¬ mayTurn s) : (rotorLook s).1.rotor.run = false := by
  unfold rotorLook
  rw [if_neg h]
  split
  · exact congrArg (·.1.rotor.run) (setLabour_eq _ _)
  · next stopped => exact Bool.eq_false_iff.2 stopped

/-! ## Rotor pulses (R139 to R141) -/

/-- R140: a pulse while RUN is asserted stamps the rotor and restarts the stall timer. -/
def stampRotor (now : Clock) (cfg : Config) (r : Rotor) : Rotor := { r with last := some now, stall := some cfg.stallMs }

/-- R139, R141: the rotor after a pulse that captures a period, its labour condition apart. -/
def capturePeriod (now before : Clock) (cfg : Config) (r : Rotor) : Rotor :=
  { judgePeriod cfg.labourMs (now - before).toNat (stampRotor now cfg r) with period := some (now - before) }

/-- R139: the first pulse of a run captures no period. -/
theorem takeRotorPulse_first (h : s.rotor.last = none) :
    takeRotorPulse s = quiet (s.onRotor (stampRotor s.clock s.cfg)) := by
  unfold takeRotorPulse
  rw [h]
  rfl

/-- R139, R141: a later pulse captures a period, and sets the labour condition by it. -/
theorem takeRotorPulse_later {before : Clock} (h : s.rotor.last = some before) :
    takeRotorPulse s = setLabour (labourAfter s.cfg.labourMs (s.clock - before).toNat s.rotor)
      (s.onRotor (capturePeriod s.clock before s.cfg)) := by
  unfold takeRotorPulse
  rw [h]
  rfl

section
variable {labourMs period : Nat} {r : Rotor}

theorem judgePeriod_starting (slow : r.upToSpeed = false) (short : period ≤ labourMs) :
    judgePeriod labourMs period r = { r with upToSpeed := true, slow := 0 } := by
  simp [judgePeriod, slow, short]

theorem judgePeriod_startingSlow (slow : r.upToSpeed = false) (long : labourMs < period) :
    judgePeriod labourMs period r = r := by
  simp [judgePeriod, slow, Nat.not_le.2 long]

theorem judgePeriod_short (speed : r.upToSpeed = true) (short : period ≤ labourMs) :
    judgePeriod labourMs period r = { r with slow := 0 } := by
  simp [judgePeriod, speed, short]

theorem judgePeriod_few (speed : r.upToSpeed = true) (long : labourMs < period) (slow : r.slow < 2) :
    judgePeriod labourMs period r = { r with slow := r.slow + 1 } := by
  have few : min 3 (r.slow + 1) = r.slow + 1 := Nat.min_eq_right (by omega)
  simp [judgePeriod, speed, Nat.not_le.2 long, few]

theorem judgePeriod_third (speed : r.upToSpeed = true) (long : labourMs < period) (slow : 2 ≤ r.slow) :
    judgePeriod labourMs period r = { r with slow := 3 } := by
  have three : min 3 (r.slow + 1) = 3 := Nat.min_eq_left (by omega)
  simp [judgePeriod, speed, Nat.not_le.2 long, three]

/-- R141: a judged period writes the speed and the slow count, and nothing else. -/
theorem judgePeriod_writes (labourMs period : Nat) (r : Rotor) :
    ∃ speed slow, judgePeriod labourMs period r = { r with upToSpeed := speed, slow := slow } := by
  unfold judgePeriod
  split
  · exact ⟨_, _, rfl⟩
  · split
    · exact ⟨_, _, rfl⟩
    · exact ⟨_, _, rfl⟩

/-- R141: before the rotor is up to speed no period makes or ends the labour condition. -/
theorem labourAfter_starting (slow : r.upToSpeed = false) : labourAfter labourMs period r = r.labour := by
  simp [labourAfter, slow]

theorem labourAfter_short (speed : r.upToSpeed = true) (short : period ≤ labourMs) :
    labourAfter labourMs period r = false := by
  simp [labourAfter, speed, short]

/-- R141: the third slow period in a row makes the labour condition. -/
theorem labourAfter_third (speed : r.upToSpeed = true) (long : labourMs < period) (slow : 2 ≤ r.slow) :
    labourAfter labourMs period r = true := by
  simp [labourAfter, speed, Nat.not_le.2 long, slow]

/-- R141: the first and the second keep it as it is. -/
theorem labourAfter_few (speed : r.upToSpeed = true) (long : labourMs < period) (slow : r.slow < 2) :
    labourAfter labourMs period r = r.labour := by
  simp [labourAfter, speed, Nat.not_le.2 long, Nat.not_le.2 slow]

end

/-- R138, R140, R141: RUN, the labour condition and the count of stalls stand through a captured period. -/
theorem capturePeriod_kept (now before : Clock) (cfg : Config) (r : Rotor) :
    (capturePeriod now before cfg r).run = r.run ∧ (capturePeriod now before cfg r).labour = r.labour
      ∧ (capturePeriod now before cfg r).stalls = r.stalls := by
  obtain ⟨speed, slow, judged⟩ := judgePeriod_writes cfg.labourMs (now - before).toNat (stampRotor now cfg r)
  rw [capturePeriod, judged]
  exact ⟨rfl, rfl, rfl⟩

/-- R142: a captured period is no loss of a feed condition. -/
theorem mayFeed_capturePeriod (now before : Clock) (cfg : Config) (h : mayFeed s) :
    mayFeed (s.onRotor (capturePeriod now before cfg)) := by
  obtain ⟨acts, run, inert, hazard, labour⟩ := h
  obtain ⟨sameRun, sameLabour, -⟩ := capturePeriod_kept now before cfg s.rotor
  exact ⟨acts, sameRun.trans run, inert, hazard, sameLabour.trans labour⟩

/-- R141: a captured period with the labour condition that it leaves, told where it changes. -/
theorem takeRotorPulse_judged {before : Clock} {b : Bool} (h : s.rotor.last = some before)
    (judged : labourAfter s.cfg.labourMs (s.clock - before).toNat s.rotor = b) : takeRotorPulse s =
      ({ s with rotor := { capturePeriod s.clock before s.cfg s.rotor with labour := b } },
        if s.rotor.labour = b then [] else [.fact (.labour b), .feedLook]) := by
  obtain ⟨-, labour, -⟩ := capturePeriod_kept s.clock before s.cfg s.rotor
  rw [takeRotorPulse_later h, judged, setLabour_eq, State.onRotor_rotor, labour]
  rfl

/-- A pulse that leaves the labour condition as it is tells nobody. -/
theorem takeRotorPulse_keeps_labour {before : Clock} (h : s.rotor.last = some before)
    (same : labourAfter s.cfg.labourMs (s.clock - before).toNat s.rotor = s.rotor.labour) :
    takeRotorPulse s = quiet (s.onRotor (capturePeriod s.clock before s.cfg)) := by
  rw [takeRotorPulse_later h, same]
  obtain ⟨-, labour, -⟩ := capturePeriod_kept s.clock before s.cfg s.rotor
  exact setLabour_same labour

/-- A ROTOR command at a SHREDDER in RUN, with RUN asserted, whose samples bring a pulse. -/
theorem execRotorPulse_eq {samples : List Bool} (acts : chamberActs s) (run : s.rotor.run = true)
    (rises : s.pins.rotor.rises samples = true) :
    let u := s.onPins fun p => { p with rotor := p.rotor.run samples }
    exec (.rotorPulse samples) s = done u (takeRotorPulse u) := if_pos ⟨rises, acts, run⟩

/-- R139, R140: what the first pulse of a run leaves at the command's end. -/
theorem execRotorPulse_first {samples : List Bool} (acts : chamberActs s) (run : s.rotor.run = true)
    (rises : s.pins.rotor.rises samples = true) (first : s.rotor.last = none) :
    exec (.rotorPulse samples) s = .next { s with
      pins := { s.pins with rotor := s.pins.rotor.run samples }, rotor := stampRotor s.clock s.cfg s.rotor } := by
  rw [execRotorPulse_eq acts run rises, takeRotorPulse_first (s := State.onPins s _) first]
  exact done_quiet id

/-- R139 to R141: what a later pulse leaves at the command's end, where the labour condition stays as it is. -/
theorem execRotorPulse_keeps_labour {samples : List Bool} {before : Clock} (acts : chamberActs s)
    (run : s.rotor.run = true) (rises : s.pins.rotor.rises samples = true) (later : s.rotor.last = some before)
    (same : labourAfter s.cfg.labourMs (s.clock - before).toNat s.rotor = s.rotor.labour) :
    exec (.rotorPulse samples) s = .next { s with
      pins := { s.pins with rotor := s.pins.rotor.run samples }
      rotor := capturePeriod s.clock before s.cfg s.rotor } := by
  rw [execRotorPulse_eq acts run rises, takeRotorPulse_keeps_labour (s := State.onPins s _) later same]
  exact done_quiet (mayFeed_capturePeriod _ _ _)

/-- R139, R140: what every later pulse leaves at the command's end. -/
theorem execRotorPulse_later {samples : List Bool} {before : Clock} (acts : chamberActs s) (run : s.rotor.run = true)
    (rises : s.pins.rotor.rises samples = true) (later : s.rotor.last = some before) :
    ∃ t, exec (.rotorPulse samples) s = .next t ∧ t.pins = { s.pins with rotor := s.pins.rotor.run samples }
      ∧ t.rotor.period = some (s.clock - before) ∧ t.rotor.stalls = s.rotor.stalls := by
  rw [execRotorPulse_eq acts run rises, takeRotorPulse_later (s := State.onPins s _) later]
  obtain ⟨t, answer, frame⟩ := done_frame (s.onPins fun p => { p with rotor := p.rotor.run samples })
    (setLabour (labourAfter s.cfg.labourMs (s.clock - before).toNat s.rotor)
      ((s.onPins fun p => { p with rotor := p.rotor.run samples }).onRotor (capturePeriod s.clock before s.cfg)))
  rw [setLabour_eq] at frame
  obtain ⟨stalls, period⟩ := frame.rotor
  obtain ⟨-, -, kept⟩ := capturePeriod_kept s.clock before s.cfg s.rotor
  exact ⟨t, answer, frame.pins, period, stalls.trans kept⟩

/-- R140: the stall timer's expiry. -/
theorem execStallTimerExpiry_acts (acts : chamberActs s) (timer : s.rotor.stall = some 0) :
    exec .stallTimerExpiry s = done s (expireStall s) := if_pos ⟨acts, timer⟩

end

/-- Settles O54: a pulse is a captured period and the labour condition after it, each by the speed, the period and the slow
count; the stall is a raising event. -/
theorem rotorPulsesAndStall : Obligations.RotorPulsesAndStall := by
  unfold Obligations.RotorPulsesAndStall
  refine ⟨fun s => ⟨rotorLook_runs, rotorLook_stops⟩, fun samples s acts run rises => ?command,
    fun before s later speed => ?operation, fun s acts timer => ?stall⟩
  case command =>
    refine ⟨execRotorPulse_first acts run rises, fun before later labour => ?_⟩
    have keeps := execRotorPulse_keeps_labour acts run rises later
    refine ⟨fun starting short => ?_, fun starting long => ?_, fun speed short => ?_, fun speed long few => ?_,
      fun _ _ _ => execRotorPulse_later acts run rises later⟩
    · rw [keeps (labourAfter_starting starting), capturePeriod,
        judgePeriod_starting (r := stampRotor _ _ _) starting short]
      rfl
    · rw [keeps (labourAfter_starting starting), capturePeriod,
        judgePeriod_startingSlow (r := stampRotor _ _ _) starting long]
      rfl
    · rw [keeps ((labourAfter_short speed short).trans labour.symm), capturePeriod,
        judgePeriod_short (r := stampRotor _ _ _) speed short]
      rfl
    · rw [keeps (labourAfter_few speed long few), capturePeriod,
        judgePeriod_few (r := stampRotor _ _ _) speed long few]
      rfl
  case operation =>
    refine ⟨fun long third => ?_, fun short => ?_⟩
    · rw [takeRotorPulse_judged later (labourAfter_third speed long third), capturePeriod,
        judgePeriod_third (r := stampRotor _ _ _) speed long third]
      rfl
    · rw [takeRotorPulse_judged later (labourAfter_short speed short), capturePeriod,
        judgePeriod_short (r := stampRotor _ _ _) speed short]
      cases s.rotor.labour <;> rfl
  case stall =>
    rw [execStallTimerExpiry_acts acts timer]
    obtain ⟨t, answer, frame, latched⟩ : ∃ t, done s (expireStall s) = .next t ∧ HandOnFrame (expireStall s).1 t
        ∧ Latched t .rotorStall := done_latched (show (expireStall s).1.running from acts.1)
    exact ⟨t, answer, frame.rotor.1, latched, frame.packs⟩

end Sys2Proof.Machine
end

/-! The feed gate: the proofs of R142, R144 and R145. First what a request leaves of the entry that it names, then what each
way of opening and closing the gate does, each said once. -/
section
namespace Sys2Proof.Machine

section
variable {s : State} {e : Entry}

/-! ## Requests (R15) -/

/-- R15: a change of the entries with a token that keeps their token changes the entry that the token finds. -/
theorem findEntry_changeEntry (tok : Token) {f : Entry → Entry} (token : ∀ e, (f e).pack.token = e.pack.token) :
    findEntry (changeEntry tok f s) tok = (findEntry s tok).map f := by
  have token' : ((fun e : Entry => e.pack.token == tok) ∘ fun e => if e.pack.token = tok then f e else e)
      = fun e => e.pack.token == tok := by
    funext e
    simp only [Function.comp]
    split
    · rw [token]
    · rfl
  have found : findEntry (changeEntry tok f s) tok
      = (findEntry s tok).map fun e => if e.pack.token = tok then f e else e := by
    unfold findEntry changeEntry
    rw [State.onCustody_custody, List.find?_map, token']
  rw [found]
  cases held : findEntry s tok with
  | none => rfl
  | some e => exact congrArg some (if_pos (findEntry_token held))

/-- R15: after an applied request the entry stands in the state asked for. -/
theorem requestApplies_requestState {tok : Token} {presumed new : EntryState}
    (applies : requestApplies s tok presumed = true)
    (free : new = .offered ∨ new = .feeding → ∀ e ∈ s.custody.list, e.state ≠ new) :
    requestApplies (requestState tok presumed new id s) tok new = true := by
  rw [requestState_applied id applies free]
  have found := findEntry_changeEntry (s := s) tok (f := fun e => { id e with state := new }) fun _ => rfl
  cases held : findEntry s tok with
  | none => simp [requestApplies, held] at applies
  | some e =>
    rw [held] at found
    exact (requestApplies_of_found found new).trans (beq_self_eq_true new)

theorem requestState_feed (tok : Token) (presumed new : EntryState) (f : Entry → Entry) (s : State) :
    (requestState tok presumed new f s).feed = s.feed := requestState_only s _ _ _ _ .feed (by decide)

/-! ## FEED opens (R142) -/

theorem feedingEntry_state (h : feedingEntry s = some e) : e.state = .feeding :=
  beq_iff_eq.1 (List.find?_some (p := fun e : Entry => e.state == .feeding) h)

theorem feedCandidate_state (h : feedCandidate s = some e) : e.state = .ready := by
  have chosen := List.find?_some (p := fun e : Entry => e.state == .ready && eligible e.pack) h
  exact beq_iff_eq.1 (Bool.and_eq_true_iff.1 chosen).1

/-- With no entry FEEDING the state is free for another. -/
theorem feeding_free (h : feedingEntry s = none) : ∀ e ∈ s.custody.list, e.state ≠ .feeding := fun e mem is =>
  List.find?_eq_none.1 h e mem (beq_iff_eq.2 is)

theorem feedLook_opens (idle : feedingEntry s = none) (candidate : feedCandidate s = some e) (may : mayFeed s) :
    feedLook s = quiet (openFeed e s) := by
  unfold feedLook
  rw [idle]
  dsimp only
  rw [if_pos may, candidate]

theorem feedLook_waits (idle : feedingEntry s = none) (lost : ¬ mayFeed s) : feedLook s = quiet s := by
  unfold feedLook
  rw [idle]
  exact if_neg lost

theorem openFeed_feed (e : Entry) (s : State) : (openFeed e s).feed =
    { s.feed with gate := true, timer := some s.cfg.feedMs, peak := some (oxygenValue s.chamber.oxygen),
                  opened := s.feed.opened.bump } := by
  unfold openFeed
  rw [State.onFeed_feed, requestState_feed]

/-- R142: the entry that FEED opens for is FEEDING. -/
theorem openFeed_feeding (idle : feedingEntry s = none) (candidate : feedCandidate s = some e)
    (found : findEntry s e.pack.token = some e) : requestApplies (openFeed e s) e.pack.token .feeding = true := by
  have applies : requestApplies s e.pack.token .ready = true := by
    rw [requestApplies_of_found found, feedCandidate_state candidate]
    rfl
  exact requestApplies_requestState applies fun _ => feeding_free idle

/-! ## FEED closes (R144, R145) -/

theorem feedLook_keeps (feeding : feedingEntry s = some e) (may : mayFeed s) : feedLook s = quiet s := by
  unfold feedLook
  rw [feeding]
  exact if_pos may

theorem feedLook_returns (feeding : feedingEntry s = some e) (lost : ¬ mayFeed s) :
    feedLook s = quiet (returnFeed e s) := by
  unfold feedLook
  rw [feeding]
  exact if_neg lost

/-- R145: a change that loses a feed condition returns the FEEDING entry in itself. -/
theorem Fx.closing_returns {b : State} {r : Fx} (feeding : feedingEntry r.1 = some e) (may : mayFeed b)
    (lost : ¬ mayFeed r.1) : r.closing b = (returnFeed e r.1, r.2) := by
  unfold Fx.closing
  rw [feeding]
  exact if_pos ⟨may, lost⟩

theorem returnFeed_feed (e : Entry) (s : State) :
    (returnFeed e s).feed = { (closeFeed s).feed with returned := s.feed.returned.bump } := by
  unfold returnFeed
  rw [State.onFeed_feed, requestState_feed]
  rfl

theorem expireFeed_feed (e : Entry) (s : State) :
    (expireFeed e s).1.feed = { (closeFeed s).feed with timeouts := s.feed.timeouts.bump } := by
  unfold expireFeed
  rw [State.onFeed_feed, requestState_feed]
  rfl

/-- R144, R145: the FEEDING entry is READY again once the gate is closed and its request made. -/
theorem closeFeed_ready (feeding : feedingEntry s = some e) (found : findEntry s e.pack.token = some e) :
    requestApplies (requestState e.pack.token .feeding .ready id (closeFeed s)) e.pack.token .ready = true := by
  have applies : requestApplies (closeFeed s) e.pack.token .feeding = true := by
    rw [requestApplies_of_found (s := closeFeed s) found, feedingEntry_state feeding]
    rfl
  exact requestApplies_requestState applies (by rintro (h | h) <;> cases h)

/-- R145: the return of the FEEDING entry closes FEED, makes the entry READY and counts. -/
theorem returnFeed_closes (feeding : feedingEntry s = some e) (found : findEntry s e.pack.token = some e) :
    ((returnFeed e s).feed.gate = false ∧ (returnFeed e s).feed.timer = none ∧ (returnFeed e s).feed.peak = none
      ∧ requestApplies (returnFeed e s) e.pack.token .ready = true ∧ (returnFeed e s).feed.opened = s.feed.opened)
    ∧ (returnFeed e s).feed.returned = s.feed.returned.bump
    ∧ (returnFeed e s).feed.timeouts = s.feed.timeouts := by
  rw [returnFeed_feed]
  exact ⟨⟨rfl, rfl, rfl, closeFeed_ready feeding found, rfl⟩, rfl, rfl⟩

/-- R144: the feed timer's expiry closes FEED, makes the entry READY and counts a timeout. -/
theorem expireFeed_closes (feeding : feedingEntry s = some e) (found : findEntry s e.pack.token = some e) :
    ((expireFeed e s).1.feed.gate = false ∧ (expireFeed e s).1.feed.timer = none ∧ (expireFeed e s).1.feed.peak = none
      ∧ requestApplies (expireFeed e s).1 e.pack.token .ready = true
      ∧ (expireFeed e s).1.feed.opened = s.feed.opened)
    ∧ (expireFeed e s).1.feed.timeouts = s.feed.timeouts.bump
    ∧ (expireFeed e s).1.feed.returned = s.feed.returned := by
  rw [expireFeed_feed]
  exact ⟨⟨rfl, rfl, rfl, closeFeed_ready feeding found, rfl⟩, rfl, rfl⟩

/-- R144: a feed timer's expiry at a SHREDDER in RUN, with an entry FEEDING. -/
theorem execFeedTimerExpiry_acts (acts : chamberActs s) (feeding : feedingEntry s = some e)
    (timer : s.feed.timer = some 0) : exec .feedTimerExpiry s = done s (expireFeed e s) := by
  show execFeedTimerExpiry s = _
  unfold execFeedTimerExpiry
  rw [feeding]
  exact if_pos ⟨acts, timer⟩

/-- R144: the expiry moves the entry alone, and the station stays in RUN. -/
theorem expireFeed_running (run : s.running) (e : Entry) : (expireFeed e s).1.running := by
  have loader : (requestState e.pack.token .feeding .ready id (closeFeed s)).loader = s.loader :=
    requestState_only _ _ _ _ _ .loader (by decide)
  exact (congrArg Loader.phase loader).trans run

/-- R144: no pack leaves the list. -/
theorem expireFeed_packs (e : Entry) (s : State) :
    (expireFeed e s).1.custody.list.map Entry.identity = s.custody.list.map Entry.identity :=
  (requestState_frame (closeFeed s) _ _ _ id fun _ => rfl).packs

end

/-- Settles O55: the looks and the closing by the FEEDING entry and the feed conditions; the time-out is a raising event. -/
theorem feedOpensAndTimesOut : Obligations.FeedOpensAndTimesOut := by
  unfold Obligations.FeedOpensAndTimesOut
  refine ⟨fun e s idle candidate found => ⟨fun may => ?opens, fun lost => ?waits⟩,
    fun e s feeding found => ⟨fun lost => ?returns, fun may => ?keeps, ?expires, fun b ns => ⟨?closes, ?stays⟩⟩,
    fun e s acts feeding timer => ?timeout⟩
  case opens =>
    rw [feedLook_opens idle candidate may]
    exact ⟨openFeed_feed e s, openFeed_feeding idle candidate found⟩
  case waits => rw [feedLook_waits idle lost]; rfl
  case returns =>
    rw [feedLook_returns feeding lost]
    exact returnFeed_closes feeding found
  case keeps => rw [feedLook_keeps feeding may]; rfl
  case expires =>
    obtain ⟨closed, timeouts, returned⟩ := expireFeed_closes feeding found
    exact ⟨closed, timeouts, returned, rfl⟩
  case closes =>
    intro may lost
    rw [Fx.closing_returns (r := (s, ns)) feeding may lost]
    obtain ⟨closed, returned, -⟩ := returnFeed_closes feeding found
    exact ⟨closed, returned, rfl⟩
  case stays =>
    exact fun h => Fx.closing_eq_self fun may => h.resolve_left (not_not_intro may)
  case timeout =>
    rw [execFeedTimerExpiry_acts acts feeding timer]
    obtain ⟨t, answer, frame, latched⟩ : ∃ t, done s (expireFeed e s) = .next t ∧ HandOnFrame (expireFeed e s).1 t
        ∧ Latched t .custody := done_latched (expireFeed_running acts.1 e)
    have timeouts := frame.timeouts
    rw [expireFeed_feed] at timeouts
    exact ⟨t, answer, timeouts, latched, frame.packs.trans (expireFeed_packs e s)⟩

end Sys2Proof.Machine
end

/-! The peer view: the proofs of R149 to R157 and of R44. First that the peer causes are worked out from what no hand-on
changes, then what each operation does to one entry, each said once. -/
section
namespace Sys2Proof.Machine

section
variable {s t u : State}

/-! ## The peer causes (R155 to R157) -/

theorem HandOnFrame.peers (h : HandOnFrame s t) : t.peers = s.peers := h.outside .peers (by decide)

/-- R155: whether a peer is listened depends on the listen table and the station's number. -/
theorem listened_congr (cfg : t.cfg = s.cfg) (own : t.loader.own = s.loader.own) : listened t = listened s := by
  funext p
  simp only [listened, cfg, own]

/-- R156: the peer level depends on the entries, the configuration and the station's number. -/
theorem peerLevel_congr (entries : t.peers.entries = s.peers.entries) (cfg : t.cfg = s.cfg)
    (own : t.loader.own = s.loader.own) : peerLevel t = peerLevel s := by
  have counts : countsForLevel t = countsForLevel s := by
    funext p
    simp only [countsForLevel, listened_congr cfg own, entries]
  simp only [peerLevel, counts, entries, cfg]

/-- R157: the PEER_SILENT condition depends on the grace time besides. -/
theorem peerSilentCondition_congr (entries : t.peers.entries = s.peers.entries)
    (grace : t.peers.gracePassed = s.peers.gracePassed) (cfg : t.cfg = s.cfg)
    (own : t.loader.own = s.loader.own) : peerSilentCondition t = peerSilentCondition s := by
  have counts : countsAsSilent t = countsAsSilent s := by
    funext p
    simp only [countsAsSilent, listened_congr cfg own, entries, grace, cfg]
  rw [peerSilentCondition, counts, peerSilentCondition]

/-- R156: the level held is the one worked out, whether it changed or not. -/
theorem workLevel_eq (s : State) : (workLevel s).1 = s.onPeers fun v => { v with level := peerLevel s } := by
  unfold workLevel
  dsimp only
  split
  · next same =>
    rw [same]
    rfl
  · rfl

/-- R157: the condition held is the one worked out, whether it changed or not. -/
theorem workSilent_eq (s : State) :
    (workSilent s).1 = s.onPeers fun v => { v with silent := peerSilentCondition s } := by
  unfold workSilent
  dsimp only
  split
  · next same =>
    rw [same]
    rfl
  · rfl

/-! ## One peer entry changed (R150, R153, R154) -/

/-- From `s` to `t` the peer entry `p` is changed by `f`, every other entry stands, and the peer level held is the one
worked out afresh; the receive queue and the packs in custody stand. -/
structure PeerChanged (p : PeerId) (f : PeerEntry → PeerEntry) (s t : State) : Prop where
  entry : t.peers.entries[p] = f s.peers.entries[p]
  others : ∀ q : PeerId, q ≠ p → t.peers.entries[q] = s.peers.entries[q]
  level : t.peers.level = peerLevel t
  rx : t.link.rx = s.link.rx
  packs : t.custody.list.map Entry.identity = s.custody.list.map Entry.identity

/-- R157: the PEER_SILENT condition held is the one worked out afresh. -/
def SilentWorked (s : State) : Prop := s.peers.silent = peerSilentCondition s

theorem PeerChanged.of_workLevel (p : PeerId) (f : PeerEntry → PeerEntry) (s : State) :
    PeerChanged p f s (workLevel (changePeer p f s)).1 := by
  rw [workLevel_eq]
  refine ⟨?entry, fun q ne => ?others, peerLevel_congr rfl rfl rfl, rfl, rfl⟩
  case entry => exact (modifyAt_getElem s.peers.entries p p f).trans (if_pos rfl)
  case others => exact (modifyAt_getElem s.peers.entries p q f).trans (if_neg (Ne.symm ne))

/-- R157: working the PEER_SILENT condition leaves the entries and the level. -/
theorem PeerChanged.of_workPeerCauses (p : PeerId) (f : PeerEntry → PeerEntry) (s : State) :
    PeerChanged p f s (workPeerCauses (changePeer p f s)).1 := by
  have h := PeerChanged.of_workLevel p f s
  show PeerChanged p f s (workSilent (workLevel (changePeer p f s)).1).1
  rw [workSilent_eq]
  exact ⟨h.entry, h.others, h.level.trans (peerLevel_congr rfl rfl rfl), h.rx, h.packs⟩

theorem silentWorked_workSilent (s : State) : SilentWorked (workSilent s).1 := by
  rw [workSilent_eq]
  exact peerSilentCondition_congr rfl rfl rfl rfl

/-- What a peer entry's change has left stands through every hand-on. -/
theorem PeerChanged.of_frame {p : PeerId} {f : PeerEntry → PeerEntry} (h : PeerChanged p f s t)
    (frame : HandOnFrame t u) : PeerChanged p f s u where
  entry := by rw [frame.peers, h.entry]
  others q ne := by rw [frame.peers, h.others q ne]
  level := by
    rw [peerLevel_congr (congrArg (·.entries) frame.peers) frame.cfg frame.own, frame.peers, h.level]
  rx := frame.rx.trans h.rx
  packs := frame.packs.trans h.packs

theorem SilentWorked.of_frame (h : SilentWorked t) (frame : HandOnFrame t u) : SilentWorked u := by
  rw [SilentWorked, frame.peers,
    peerSilentCondition_congr (congrArg (·.entries) frame.peers) (congrArg (·.gracePassed) frame.peers)
      frame.cfg frame.own]
  exact h

/-- R154, log 42: the evaluation of a change of the peer causes, and every hand-on of the command after it. -/
theorem done_tellHandoff (b : State) (r : Fx) (ns : List Notice) :
    ∃ t, done b (tellHandoff r ns) = .next t ∧ HandOnFrame r.1 t := by
  obtain ⟨t, answer, frame⟩ := done_frame b (tellHandoff r ns)
  refine ⟨t, answer, HandOnFrame.trans ?_ frame⟩
  unfold tellHandoff
  dsimp only
  split
  · exact .refl _
  · exact (reassess_frame _).1

/-- R150, R153: the answer of a command that changes one peer entry and works both peer causes. -/
theorem done_workPeerCauses (b s : State) (p : PeerId) (f : PeerEntry → PeerEntry) (ns : List Notice) :
    ∃ t, done b (tellHandoff (workPeerCauses (changePeer p f s)) ns) = .next t ∧ PeerChanged p f s t
      ∧ SilentWorked t := by
  obtain ⟨t, answer, frame⟩ := done_tellHandoff b (workPeerCauses (changePeer p f s)) ns
  exact ⟨t, answer, (PeerChanged.of_workPeerCauses p f s).of_frame frame,
    (silentWorked_workSilent (workLevel (changePeer p f s)).1).of_frame frame⟩

/-! ## STATUS and ALARM (R149 to R152, R154) -/

/-- R149: the peer view takes deliveries from JOIN on; in the phases of the next lemma it discards them. -/
theorem viewsPeers_of_takes {ph : Phase} (h : ph = .join ∨ ph = .test ∨ ph = .baseline ∨ ph = .run) :
    Phase.viewsPeers ph = true := by
  rcases h with rfl | rfl | rfl | rfl <;> rfl

theorem viewsPeers_of_discards {ph : Phase} (h : ph = .load ∨ ph = .check ∨ ph = .faulted) :
    Phase.viewsPeers ph = false := by
  rcases h with rfl | rfl | rfl <;> rfl

theorem peerOfNumber_succ (p : PeerId) : peerOfNumber (p.val + 1) = some p := by
  unfold peerOfNumber
  rw [dif_pos (by omega)]
  rfl

/-- R151, R152: a STATUS without fresh start from a FRESH peer raises the missed count by its gap less one, where the gap
is two or more; any other leaves it. -/
theorem takeStatusFields_missed_some {e : PeerEntry} {m : Nat} (seq : e.seq = some m) (f : StatusFields) (now : Clock) :
    (takeStatusFields f now e).missed =
      if f.fresh = false ∧ e.heard = true ∧ e.freshness = .fresh ∧ 2 ≤ sequenceGap m f.seq
      then e.missed + BitVec.ofNat 32 (sequenceGap m f.seq - 1) else e.missed := by
  show e.missed + BitVec.ofNat 32 (missedBy e f) = _
  unfold missedBy
  rw [seq]
  by_cases counts : f.fresh = false ∧ e.heard = true ∧ e.freshness = .fresh
  · obtain ⟨old, heard, fresh⟩ := counts
    by_cases gap : 2 ≤ sequenceGap m f.seq <;> simp [old, heard, fresh, gap]
  · have skipped : (f.fresh || !e.heard || e.freshness != .fresh) = true := by
      revert counts
      cases f.fresh <;> cases e.heard <;> simp
    rw [if_pos skipped, if_neg fun ⟨old, heard, fresh, _⟩ => counts ⟨old, heard, fresh⟩]
    exact BitVec.add_zero _

theorem takeStatusFields_missed_none {e : PeerEntry} (seq : e.seq = none) (f : StatusFields) (now : Clock) :
    (takeStatusFields f now e).missed = e.missed := by
  show e.missed + BitVec.ofNat 32 (missedBy e f) = _
  unfold missedBy
  rw [seq, ite_self]
  exact BitVec.add_zero _

section
variable {p : PeerId} {dest : Nat} {rest : List Telegram}

theorem execStatusReceived_acts {f : StatusFields} (rx : s.link.rx = ⟨p.val + 1, dest, .status f⟩ :: rest)
    (other : p.val + 1 ≠ s.loader.own) (views : Phase.viewsPeers s.loader.phase = true) :
    exec .statusReceived s = done s (takeStatus p f { s with link := { s.link with rx := rest } }) := by
  show execStatusReceived s = _
  unfold execStatusReceived
  rw [oldestTelegram_of_head rx other (Nat.succ_ne_zero _)]
  dsimp only
  rw [views, peerOfNumber_succ, dropRx_eq rx]

theorem execStatusReceived_discards {f : StatusFields} (rx : s.link.rx = ⟨p.val + 1, dest, .status f⟩ :: rest)
    (other : p.val + 1 ≠ s.loader.own) (views : Phase.viewsPeers s.loader.phase = false) :
    exec .statusReceived s = .next { s with link := { s.link with rx := rest } } := by
  show execStatusReceived s = _
  unfold execStatusReceived
  rw [oldestTelegram_of_head rx other (Nat.succ_ne_zero _)]
  dsimp only
  rw [views, dropRx_eq rx]

theorem execAlarmReceived_acts {c : Cause} {zone point : Nat} {l : Level} {h : Hazard}
    (rx : s.link.rx = ⟨p.val + 1, dest, .alarm c zone point l h⟩ :: rest) (other : p.val + 1 ≠ s.loader.own)
    (views : Phase.viewsPeers s.loader.phase = true) :
    exec .alarmReceived s = done s (takeAlarm p zone h { s with link := { s.link with rx := rest } }) := by
  show execAlarmReceived s = _
  unfold execAlarmReceived
  rw [oldestTelegram_of_head rx other (Nat.succ_ne_zero _)]
  dsimp only
  rw [views, peerOfNumber_succ, dropRx_eq rx]

theorem execAlarmReceived_discards {c : Cause} {zone point : Nat} {l : Level} {h : Hazard}
    (rx : s.link.rx = ⟨p.val + 1, dest, .alarm c zone point l h⟩ :: rest) (other : p.val + 1 ≠ s.loader.own)
    (views : Phase.viewsPeers s.loader.phase = false) :
    exec .alarmReceived s = .next { s with link := { s.link with rx := rest } } := by
  show execAlarmReceived s = _
  unfold execAlarmReceived
  rw [oldestTelegram_of_head rx other (Nat.succ_ne_zero _)]
  dsimp only
  rw [views, dropRx_eq rx]

end

end

/-- Settles O44: a telegram taken changes one entry and works the peer causes; only the missed count needs the cases of
R151 and R152. -/
theorem peerTelegramsUpdateEntry : Obligations.PeerTelegramsUpdateEntry := by
  unfold Obligations.PeerTelegramsUpdateEntry
  refine ⟨fun p dest f rest s rx other => ⟨fun takes => ?status, fun discards => ?statusDiscarded⟩,
    fun p dest zone point c l h rest s rx other => ⟨fun takes => ?alarm, fun discards => ?alarmDiscarded⟩⟩
  case status =>
    rw [execStatusReceived_acts rx other (viewsPeers_of_takes takes)]
    obtain ⟨t, answer, changed, silent⟩ := done_workPeerCauses s { s with link := { s.link with rx := rest } } p
      (takeStatusFields f s.clock) _
    refine ⟨t, answer, changed.rx, changed.entry.trans ?_, changed.others, changed.level, silent⟩
    dsimp only [takeStatusFields]
    congr 1
    cases seq : s.peers.entries[p].seq with
    | none => exact takeStatusFields_missed_none seq f s.clock
    | some m => exact takeStatusFields_missed_some seq f s.clock
  case alarm =>
    rw [execAlarmReceived_acts rx other (viewsPeers_of_takes takes)]
    obtain ⟨t, answer, frame⟩ := done_tellHandoff s _ _
    have changed := (PeerChanged.of_workLevel p (takeAlarmHazard h (alarmMatches s.cfg (p.val + 1) zone))
      { s with link := { s.link with rx := rest } }).of_frame frame
    exact ⟨t, answer, changed.rx, changed.entry, changed.others, changed.level⟩
  case statusDiscarded => exact execStatusReceived_discards rx other (viewsPeers_of_discards discards)
  case alarmDiscarded => exact execAlarmReceived_discards rx other (viewsPeers_of_discards discards)

section
variable {s t u : State}

/-! ## Deliveries of the own number or of 0, and REPORT (R149, R168) -/

/-- R149: a delivery at the head of the receive queue that bears the station's own number or 0. -/
theorem execDuplicateStation_acts {tg : Telegram} {rest : List Telegram} (rx : s.link.rx = tg :: rest)
    (bad : tg.origin = s.loader.own ∨ tg.origin = 0) (views : Phase.viewsPeers s.loader.phase = true) :
    exec .duplicateStation s = done s (takeBadOrigin tg.origin { s with link := { s.link with rx := rest } }) := by
  show execDuplicateStation s = _
  unfold execDuplicateStation
  rw [rx]
  dsimp only
  rw [if_pos (show badOrigin s tg = true by simpa [badOrigin] using bad), if_pos views, dropRx_eq rx]

theorem execReportReceived_drops {origin dest item index part : Nat} {ok : Bool} {answer : List Byte}
    {rest : List Telegram} (rx : s.link.rx = ⟨origin, dest, .report item index ok part answer⟩ :: rest)
    (own : origin ≠ s.loader.own) (zero : origin ≠ 0) :
    exec .reportReceived s = .next { s with link := { s.link with rx := rest } } := by
  show execReportReceived s = _
  unfold execReportReceived
  rw [oldestTelegram_of_head rx own zero]
  dsimp only
  rw [dropRx_eq rx]

/-- R116: outside RUN a raising event leaves the command at its end. -/
theorem done_raise_idle {l : Latch} (idle : ¬ u.running) (feed : mayFeed s → mayFeed u) :
    done s (u, [.raise l]) = .next u := by
  have raised : take (.raise l) u = quiet u := by
    rw [take, show hand (.raise l) u = quiet u from if_neg idle]
    exact Fx.closing_eq_self id
  rw [done, Fx.closing_eq_self feed, finish_cons_eq rfl, raised]
  rfl

end

/-- Settles O45: the duplicate is a raising event, which latches its cause in RUN and does nothing before. -/
theorem badOriginsAreCounted : Obligations.BadOriginsAreCounted := by
  unfold Obligations.BadOriginsAreCounted
  refine ⟨fun tg rest s rx own takes => ?duplicate, fun tg rest s rx zero own takes => ?zero,
    fun origin dest item index part ok answer rest s rx own zero => execReportReceived_drops rx own zero⟩
  case duplicate =>
    rw [execDuplicateStation_acts rx (.inl own) (viewsPeers_of_takes takes)]
    unfold takeBadOrigin
    rw [if_pos own]
    by_cases run : s.running
    · obtain ⟨t, answer, frame, latched⟩ := done_latched (s := s) (l := .link) (ns := [])
        (u := { s with link := { s.link with rx := rest },
                       peers := { s.peers with duplicates := s.peers.duplicates.bump } }) run
      exact ⟨t, answer, frame.rx, frame.peers, fun _ => latched, fun idle => absurd run idle⟩
    · exact ⟨_, done_raise_idle (by exact run) id, rfl, rfl, fun is => absurd is run, fun _ => rfl⟩
  case zero =>
    rw [execDuplicateStation_acts rx (.inr zero) (viewsPeers_of_takes takes)]
    unfold takeBadOrigin
    rw [if_neg (by rw [zero]; exact own.symm)]
    exact done_quiet fun may => may

section
variable {s : State}

/-! ## Freshness and the grace time (R153, R157) -/

theorem execStaleTimerExpiry_acts {p : PeerId} (heard : s.peers.entries[p].heard = true)
    (fresh : s.peers.entries[p].freshness = .fresh) (timer : s.peers.entries[p].stale = some 0) :
    exec (.staleTimerExpiry p) s = done s (becomeStale p s) := if_pos ⟨heard, fresh, timer⟩

theorem execSilentTimerExpiry_acts {p : PeerId} (heard : s.peers.entries[p].heard = true)
    (loud : s.peers.entries[p].freshness ≠ .silent) (timer : s.peers.entries[p].silent = some 0) :
    exec (.silentTimerExpiry p) s = done s (becomeSilent p s) := if_pos ⟨heard, loud, timer⟩

theorem execGraceTimerExpiry_acts (timer : s.peers.grace = some 0) :
    exec .graceTimerExpiry s = done s (passGrace s) := if_pos timer

/-- R157: the end of the grace time leaves every entry. -/
theorem passGrace_peers (s : State) : (passGrace s).1.peers.grace = none ∧ (passGrace s).1.peers.gracePassed = true
    ∧ (passGrace s).1.peers.entries = s.peers.entries := by
  unfold passGrace
  rw [workSilent_eq]
  exact ⟨rfl, rfl, rfl⟩

/-! ## A downstream lost (R44) -/

/-- R44: what the loss of a station makes of one entry. -/
theorem setAdrift_eq (n : Nat) (restarted : Bool) (ms : Nat) (e : Entry) : setAdrift n restarted ms e =
    if e.target = n ∧ e.state = .inTransit then { e with state := .adrift, adrift := some ms, restart := restarted }
    else if e.target = n ∧ e.state = .adrift then { e with restart := e.restart || restarted }
    else e := by
  unfold setAdrift
  by_cases toward : e.target = n
  · cases state : e.state <;> simp [toward]
  · simp [toward]

/-- R44: an entry returned to READY is not in transit, so the loss leaves it. -/
theorem setAdrift_ready (n : Nat) (restarted : Bool) (ms : Nat) (e : Entry) :
    setAdrift n restarted ms { e with state := .ready } = { e with state := .ready } := by
  simp [setAdrift_eq]

theorem returnOfferTo_other {n : Nat} (other : ∀ o, s.handoff.offer = some o → o.target ≠ n) :
    returnOfferTo n s = s := by
  unfold returnOfferTo
  split
  · next o offer => exact if_neg (other o offer)
  · rfl

theorem returnOfferTo_target {n : Nat} {o : Offer} (offer : s.handoff.offer = some o) (toward : o.target = n) :
    returnOfferTo n s = startRetry (returnOffered o.token (clearOffer s)) := by
  unfold returnOfferTo
  rw [offer]
  exact if_pos toward

/-- R15: a request that finds its entry in another state changes nothing. -/
theorem returnOffered_refused {tok : Token} (refused : requestApplies s tok .offered = false) :
    returnOffered tok s = s :=
  if_neg fun ⟨applies, _⟩ => absurd (refused.symm.trans applies) Bool.false_ne_true

/-- R44: in RUN at a station that offers, the offer to the lost station is returned first, then the entries toward it
are set ADRIFT. -/
theorem takeDownstreamLost_state (n : Nat) (restarted : Bool) (run : s.running) (role : Role.offers s.cfg.role = true) :
    (takeDownstreamLost n restarted s).1 = (returnOfferTo n s).onCustody fun c =>
      { c with list := c.list.map (setAdrift n restarted (2 * s.cfg.transitMs)) } := by
  unfold takeDownstreamLost
  rw [if_pos ⟨run, role⟩, ← (returnOfferTo_frame s n).cfg]

end

/-- Settles O46: a timer's expiry changes one entry and works the peer causes; a loss returns the offer and sets the
entries ADRIFT, by whether an offer to the station stands and names an OFFERED entry. -/
theorem peerTimersAgeEntries : Obligations.PeerTimersAgeEntries := by
  unfold Obligations.PeerTimersAgeEntries
  refine ⟨fun p s heard fresh timer => ?stale, fun p s heard loud timer => ?silent,
    fun n restarted s run role other => ?unoffered, fun n restarted o s run role offer toward => ?offered,
    fun s timer => ?grace⟩
  case stale =>
    rw [execStaleTimerExpiry_acts heard fresh timer]
    obtain ⟨t, answer, changed, silent⟩ := done_workPeerCauses s s p
      (fun e => { e with freshness := .stale, stale := none }) _
    exact ⟨t, answer, changed.entry, changed.others, changed.level, silent⟩
  case silent =>
    rw [execSilentTimerExpiry_acts heard loud timer]
    obtain ⟨t, answer, changed, silent⟩ := done_workPeerCauses s s p
      (fun e => { e with freshness := .silent, stale := none, silent := none, silences := e.silences + 1 }) _
    exact ⟨t, answer, changed.entry, changed.others, changed.level, silent, changed.packs⟩
  case unoffered =>
    rw [takeDownstreamLost_state n restarted run role, returnOfferTo_other other]
    simp only [State.onCustody, funext (setAdrift_eq n restarted (2 * s.cfg.transitMs))]
  case offered =>
    simp only [← setAdrift_eq]
    rw [takeDownstreamLost_state n restarted run role, returnOfferTo_target offer toward]
    refine ⟨fun applies => ?_, fun refused => ?_⟩
    · rw [returnOffered_applied (s := clearOffer s) applies]
      simp only [startRetry, changeEntry, clearOffer, State.onCustody, State.onHandoff, List.map_map]
      congr 3
      funext e
      by_cases named : e.pack.token = o.token <;> simp [named, setAdrift_ready]
    · rw [returnOffered_refused (s := clearOffer s) refused]
      rfl
  case grace =>
    rw [execGraceTimerExpiry_acts timer]
    obtain ⟨t, answer, frame⟩ := done_frame s (passGrace s)
    obtain ⟨ended, passed, entries⟩ := passGrace_peers s
    exact ⟨t, answer, by rw [frame.peers, ended], by rw [frame.peers, passed], by rw [frame.peers, entries],
      (silentWorked_workSilent (s.onPeers fun v => { v with grace := none, gracePassed := true })).of_frame frame⟩

end Sys2Proof.Machine
end

/-! Service requests: the proof of O56 (R179, R181 to R184). First the command of an item and what it does with its QUERY,
each said once for every item; then what each item's answer makes of the state. -/
section
namespace Sys2Proof.Machine

/-! ## Every item, by one command (R181, Table 33) -/

/-- What the command of an item does with a QUERY that is acted on; `exec_queryCommand` ties it to the twelve commands. -/
def answerItem : Nat → Query → State → State
  | 1 => answerIdentify
  | 2 => answerCounters
  | 10 => answerTally
  | 11 => answerTurn
  | item => if 3 ≤ item ∧ item ≤ 9 then answerRecord fun u => recordOf u item else answerUndefined

theorem answerItem_record {item : Nat} (low : 3 ≤ item) (high : item ≤ 9) :
    answerItem item = answerRecord fun u => recordOf u item := by
  match item with
  | 0 | 1 | 2 => omega
  | 3 | 4 | 5 | 6 | 7 | 8 | 9 => rfl
  | n + 10 => omega

theorem answerItem_undefined {item : Nat} (undefinedItem : item = 0 ∨ 12 ≤ item) :
    answerItem item = answerUndefined := by
  rcases undefinedItem with rfl | high
  · rfl
  · obtain ⟨n, rfl⟩ := Nat.exists_eq_add_of_le' high
    simp [answerItem]

section
variable {s : State}

theorem headQuery_of_head {tool dest item index part : Nat} {rest : List Telegram}
    (rx : s.link.rx = ⟨tool, dest, .query item index part⟩ :: rest) (own : tool ≠ s.loader.own) (zero : tool ≠ 0) :
    headQuery s = some ⟨tool, dest, item, index, part⟩ := by
  unfold headQuery
  rw [oldestTelegram_of_head rx own zero]

theorem serve_of_head {q : Query} {mine : Nat → Bool} (act : Query → State → State) (head : headQuery s = some q)
    (names : mine q.item = true) : serve mine act s = takeQuery q act s := by
  unfold serve
  rw [head]
  exact if_pos names

/-- R181: the command of an item takes the QUERY at the head that names it. -/
theorem exec_queryCommand {q : Query} (head : headQuery s = some q) :
    exec (queryCommand q.item) s = .next (takeQuery q (answerItem q.item) s) := by
  obtain ⟨tool, dest, item, index, part⟩ := q
  match item with
  | 0 | 1 | 2 | 3 | 4 | 5 | 6 | 7 | 8 | 9 | 10 | 11 => exact congrArg _ (serve_of_head _ head rfl)
  | n + 12 =>
    rw [answerItem_undefined (.inr (Nat.le_add_left 12 n))]
    exact congrArg _ (serve_of_head answerUndefined head (by simp))

/-! ## What becomes of a QUERY (R181) -/

theorem takeQuery_discarded {q : Query} (act : Query → State → State) (zero : q.dest = 0) :
    takeQuery q act s = dropRx s := if_pos zero

theorem takeQuery_busy {q : Query} (act : Query → State → State) (dest : q.dest ≠ 0)
    (queued : s.link.report.isSome = true) :
    takeQuery q act s = (dropRx s).onResponder fun r => { r with busy := r.busy.bump } :=
  (if_neg dest).trans (if_pos queued)

theorem takeQuery_refused {q : Query} (act : Query → State → State) (dest : q.dest ≠ 0) (free : s.link.report = none)
    (faulted : s.loader.phase = .faulted) (item : q.item ≠ 1) :
    takeQuery q act s = (dropRx s).onResponder fun r => { r with refused := r.refused.bump } := by
  have unqueued : ¬ (dropRx s).link.report.isSome = true := by simp [dropRx, free]
  exact (if_neg dest).trans ((if_neg unqueued).trans (if_pos ⟨faulted, item⟩))

theorem takeQuery_acts {q : Query} (act : Query → State → State) (dest : q.dest ≠ 0) (free : s.link.report = none)
    (allowed : s.loader.phase = .faulted → q.item = 1) : takeQuery q act s = act q (dropRx s) := by
  have unqueued : ¬ (dropRx s).link.report.isSome = true := by simp [dropRx, free]
  exact (if_neg dest).trans ((if_neg unqueued).trans (if_neg fun ⟨faulted, item⟩ => item (allowed faulted)))

/-! ## The answer of each item (R179, R182 to R184) -/

/-- R181: the REPORT is marked OK exactly where there is an answer. -/
theorem replyWith_eq (q : Query) (part : Nat) (answer : Option (List Byte)) :
    replyWith q part answer s = sendReport q answer.isSome part (answer.getD []) s := by
  cases answer <;> rfl

/-- R183: part 0 is the header of the snapshot just taken. -/
theorem answerCounters_zero {q : Query} (zero : q.index = 0) : answerCounters q s =
    sendReport q true 0 (snapshotHeader { number := (s.responder.number + 1) % 256, clock := s.clock,
                                          entries := s.custody.list.length, counts := snapshotCounts s })
      (takeSnapshot s) := by
  unfold answerCounters countersAnswer
  simp only [if_pos zero]
  rfl

/-- R183: the other parts are read from the snapshot held. -/
theorem answerCounters_held {q : Query} (other : q.index ≠ 0) : answerCounters q s =
    replyWith q 0 (s.responder.snapshot.bind fun n => snapshotPart n q.index) s := by
  unfold answerCounters countersAnswer
  simp only [if_neg other]

/-- R184: an index that is 0 or names the held bank turns the banks, and the REPORT carries the two bytes of 13.3. -/
theorem answerTurn_turned {q : Query} (first : q.part = 0) (held : turnNamesHeld s.tally q.index = true) :
    answerTurn q s = sendReport q true 0
      (byteOf (Tally.heldBank s.tally).length :: heldBankByte (turnBanks s).tally) (turnBanks s) := by
  rw [← first]
  exact if_pos ⟨first, held⟩

/-- R182, R184: a TURN that is not made, by an index of Table 33 (log 12). -/
theorem answerTurn_inTable {q : Query} (unmade : ¬ (q.part = 0 ∧ turnNamesHeld s.tally q.index = true))
    (inTable : q.index ≤ 2) : answerTurn q s = sendReport q false q.part (heldBankByte s.tally) s := by
  unfold answerTurn
  rw [if_neg unmade, if_pos inTable]

/-- An index above 2 names no bank. -/
theorem turnNamesHeld_above {t : Tally} {index : Nat} (above : 2 < index) : turnNamesHeld t index = false := by
  obtain ⟨n, rfl⟩ := Nat.exists_eq_add_of_le' above
  simp [turnNamesHeld]

/-- R182: a TURN by an index above 2 is not made and its answer is empty. -/
theorem answerTurn_above {q : Query} (above : 2 < q.index) : answerTurn q s = sendReport q false q.part [] s := by
  have unmade : ¬ (q.part = 0 ∧ turnNamesHeld s.tally q.index = true) := by simp [turnNamesHeld_above above]
  unfold answerTurn
  rw [if_neg unmade, if_neg (Nat.not_le.2 above)]

end

/-- Settles O56: the QUERY is discarded, busy or refused for every item alike, and acted on by the answer of its item. -/
theorem queriesAreAnswered : Obligations.QueriesAreAnswered := by
  unfold Obligations.QueriesAreAnswered
  intro tool dest item index part rest s rx own zero
  dsimp only
  have taken : exec (queryCommand item) s = .next (takeQuery ⟨tool, dest, item, index, part⟩ (answerItem item) s) :=
    exec_queryCommand (headQuery_of_head rx own zero)
  rw [taken]
  refine ⟨fun toZero => ?discarded, fun dest queued => ?busy, fun dest free faulted other => ?refused,
    fun dest free allowed => ?answered⟩
  case discarded => rw [takeQuery_discarded _ toZero, dropRx_eq rx]
  case busy =>
    rw [takeQuery_busy _ dest queued, dropRx_eq rx]
    rfl
  case refused =>
    rw [takeQuery_refused _ dest free faulted other, dropRx_eq rx]
    rfl
  case answered =>
    rw [takeQuery_acts _ dest free allowed, dropRx_eq rx]
    refine ⟨?identify, fun low high => ?record, ?tally, ?snapshot, ?counters, ?turned, ?inTable, ?above,
      fun undefinedItem => ?undefinedItem⟩
    case identify =>
      rintro rfl
      exact congrArg _ (replyWith_eq _ _ _)
    case record =>
      rw [answerItem_record low high]
      exact congrArg _ (replyWith_eq _ _ _)
    case tally =>
      rintro rfl
      exact congrArg _ (replyWith_eq _ _ _)
    case snapshot =>
      rintro rfl first
      exact congrArg _ (answerCounters_zero first)
    case counters =>
      rintro rfl other
      exact congrArg _ ((answerCounters_held other).trans (replyWith_eq _ _ _))
    case turned =>
      rintro rfl first held
      exact congrArg _ (answerTurn_turned first held)
    case inTable =>
      rintro rfl inTable unmade
      exact congrArg _ (answerTurn_inTable unmade inTable)
    case above =>
      rintro rfl above
      exact congrArg _ (answerTurn_above above)
    case undefinedItem => rw [answerItem_undefined undefinedItem]; rfl

end Sys2Proof.Machine
end
